-- ==== Sys2Proof/Word.lean ====
section
/-! DEFINITION. The word types of the breeze frame receiver: the 16-bit transaction word (R80) and the byte of the frame
buffer (R23). -/

namespace Sys2Proof

/-- A transaction word, the input of one step (R80). -/
abbrev Word := BitVec 16

/-- A byte of the frame buffer (R23) or of a transaction's data operand (R82). -/
abbrev Byte := BitVec 8

end Sys2Proof
end

