-- ==== Sys2Proof/Syntax.lean ====
section
/-! DEFINITION. The transactions, one constructor per row of spec/opcode_table.json (R81). Bits that R81 marks as ignored
are no operand: no rule reads them (R82). -/

namespace Sys2Proof

/-- A transaction with its operands (R81, R82). Indices, offsets and lengths are numbers, the data operand is a byte;
`Instr.wellFormed` gives the ranges their fields admit. -/
inductive Instr where
  /-- `NOP`, kind 0 (R115). -/
  | nop
  /-- `BYTE_WRITE idx, data`, kind 1 (R116). -/
  | byteWrite (idx : Nat) (data : Byte)
  /-- `BYTES_READY offset, length`, kind 2 (R117 to R120). -/
  | bytesReady (offset length : Nat)
  /-- `BUFFER_NEEDED`, kind 3 (R121). -/
  | bufferNeeded
  /-- `BUFFER_RELEASED`, kind 4 (R122). -/
  | bufferReleased
  /-- `RECEPTION_STOPPED`, kind 5 (R123). -/
  | receptionStopped
  /-- `RECEPTION_DISABLED`, kind 6 (R124). -/
  | receptionDisabled
  /-- `RSV7`, kind 7, reserved (R125). -/
  | rsv7
  deriving DecidableEq, Repr

end Sys2Proof
end

