-- ==== Sys2Proof/WellFormed.lean ====
section
/-! DEFINITION. The operand ranges a transaction word can carry (R82): an index or offset is 0..31, a length 0..255. -/

namespace Sys2Proof

/-- An index or offset fits the 5-bit field `a` (R80, R82). -/
def fitsA (n : Nat) : Bool := decide (n < 32)

/-- A length fits the 8-bit field `b` (R80, R82). -/
def fitsB (n : Nat) : Bool := decide (n < 256)

/-- Every operand lies in the range of R82. The data operand is a byte by its type. -/
def Instr.wellFormed : Instr → Bool
  | .nop => true
  | .byteWrite idx _ => fitsA idx
  | .bytesReady offset length => fitsA offset && fitsB length
  | .bufferNeeded => true
  | .bufferReleased => true
  | .receptionStopped => true
  | .receptionDisabled => true
  | .rsv7 => true

end Sys2Proof
end

