-- ==== Sys2Proof/Decode.lean ====
section
/-! DEFINITION. The transaction decoder (R80 to R84) and, after it, the encoder. Decoding is total: no word is illegal and
no word traps (R83), so the decoder rejects nothing. -/

namespace Sys2Proof

/-- `kind = word[15:13]` (R80). -/
def kindField (w : Word) : BitVec 3 := w.extractLsb' 13 3

/-- `a = zext_5(word[12:8])` (R82). -/
def aField (w : Word) : Nat := (w.extractLsb' 8 5).toNat

/-- `word[7:0]`, the field `b` as bits (R80). -/
def bBits (w : Word) : Byte := w.extractLsb' 0 8

/-- `b = zext_8(word[7:0])` (R82). -/
def bField (w : Word) : Nat := (bBits w).toNat

/-- The transaction a word stands for (R81, R82). The last arm is kind 7, the only value a 3-bit field has left. -/
def decode (w : Word) : Instr :=
  match (kindField w).toNat with
  | 0 => .nop
  | 1 => .byteWrite (aField w) (bBits w)
  | 2 => .bytesReady (aField w) (bField w)
  | 3 => .bufferNeeded
  | 4 => .bufferReleased
  | 5 => .receptionStopped
  | 6 => .receptionDisabled
  | _ => .rsv7

/-- The mask of every row of R81. -/
def rowMask : Word := 0xE000

/-- The match of the row a transaction belongs to (the table of R81). -/
def rowMatch : Instr → Word
  | .nop => 0x0000
  | .byteWrite _ _ => 0x2000
  | .bytesReady _ _ => 0x4000
  | .bufferNeeded => 0x6000
  | .bufferReleased => 0x8000
  | .receptionStopped => 0xA000
  | .receptionDisabled => 0xC000
  | .rsv7 => 0xE000

/-- A word from its three fields (R80). -/
def wordOf (kind : BitVec 3) (a : Nat) (b : Byte) : Word := kind ++ (BitVec.ofNat 5 a ++ b)

/-- The canonical word of a well-formed transaction: ignored bits zero (R82, R90). -/
def encode : Instr → Word
  | .nop => wordOf 0 0 0
  | .byteWrite idx data => wordOf 1 idx data
  | .bytesReady offset length => wordOf 2 offset (BitVec.ofNat 8 length)
  | .bufferNeeded => wordOf 3 0 0
  | .bufferReleased => wordOf 4 0 0
  | .receptionStopped => wordOf 5 0 0
  | .receptionDisabled => wordOf 6 0 0
  | .rsv7 => wordOf 7 0 0

/-- The transaction word whose low `nbits` bits are those of `w` and whose other bits are 0. -/
def wordOfBits (nbits w : Nat) : Word := BitVec.ofNat 16 (w % 2 ^ nbits)

/-- The opcode table's numbering: `w` holds the word's bits, bit 0 the least significant. There is one length, 16 bits
(R80); a longer word is none of the block's. -/
def decodeTableWord (nbits w : Nat) : Option Instr :=
  if nbits ≤ 16 then some (decode (wordOfBits nbits w)) else none

end Sys2Proof
end

