-- ==== Sys2Proof/Config.lean ====
section
/-! DEFINITION. What an instance of the block fixes when it is built (R11), and the one value the block does not compute
itself (R9). Nothing here picks a value the spec leaves open: the constants are opaque (logs 2 and 3). -/

namespace Sys2Proof

/-- The re-arm policy, `REARM_POLICY` (R11, D11): no default, chosen per deployment. -/
inductive RearmPolicy where
  | doubleBuffer
  | singleShot
  deriving DecidableEq, Repr, Inhabited

/-- The build-time parameters of R11. `debounceLess1` is `DEBOUNCE_N - 1`, so that the legal range 1..16 of `DEBOUNCE_N`
holds by its type (I10); an instance that does not configure it has the default `DEBOUNCE_N` = 5. `idleTimeout` is opaque
to the block: no rule reads it (I2). -/
structure Config where
  policy : RearmPolicy
  debounceLess1 : Fin 16 := 4
  idleTimeout : Nat
  deriving DecidableEq, Repr, Inhabited

/-- `DEBOUNCE_N`, an integer in 1..16 (R11, D12). -/
def Config.debounceN (c : Config) : Nat := c.debounceLess1.val + 1

/-- The instance of a deployment that chooses the re-arm policy and the idle timeout, which have no default, and leaves
`DEBOUNCE_N` at its default 5 (R11, D12). -/
def Config.ofPolicy (policy : RearmPolicy) (idleTimeout : Nat) : Config := { policy, idleTimeout }

/-- `FRAME_LEN`, 18 only (R11). -/
def frameLen : Nat := 18

/-- DESIGN CHOICE (log 3): the parameters of the instance that `State.reset` describes. No body: a claim about the reset
state is true of every choice of parameters. -/
opaque Config.build : Config

/-- DESIGN CHOICE (log 2): the free draw of the arm result (R9, I5) where the environment has queued no input sample. No
body: a claim is true of every sequence of draws. -/
opaque Config.armDraw : Nat → Bool

end Sys2Proof
end

