-- ==== Sys2Proof/Machine/State.lean ====
section
/-! DEFINITION. The state of the block (R20) as plain data, and its value after reset (R230). -/

namespace Sys2Proof.Machine

/-- The assembler states of R21, an enumeration as R21 asks. `frameReady` is a phase: no step ends in it (R129). -/
inductive AsmState where
  | idle
  | receiving
  | frameReady
  | error
  | stopping
  deriving DecidableEq, Repr

/-- The ControlState registers (R24 to R29). The s11 and s16 registers hold two's complement bit patterns (R14, D28). -/
structure ControlState where
  ch0 : BitVec 11
  ch1 : BitVec 11
  ch2 : BitVec 11
  ch3 : BitVec 11
  s1 : BitVec 2
  s2 : BitVec 2
  vx : BitVec 16
  vy : BitVec 16
  vz : BitVec 16
  btn0 : Bool
  btn1 : Bool
  keys : BitVec 16
  wheel : BitVec 11
  deriving DecidableEq, Repr

/-- One sample of the input ports `rst`, `txn` and `arm_ok` (R33). -/
structure Input where
  rst : Bool
  txn : Word
  armOk : Bool
  deriving DecidableEq, Repr

/-- The step outputs of R34. -/
structure StepOut where
  armReq : Bool
  armTimeout : Nat
  stopReq : Bool
  frameValid : Bool
  frame : BitVec 144
  err : BitVec 2
  deriving DecidableEq, Repr

/-- The frame buffer as (index, byte) cells. Its canonical form is `Memory.wf`; an unlisted byte reads 0x00, the reset
contents of R23 and R230 (log 6). -/
abbrev Memory := List Host.Cell

/-- No step faults: the block has no traps and no fatal error (R200, R204), and a model must not fault where the transport
breaks its duties (I11). So there is no constructor (log 12). -/
inductive Fault where
  deriving DecidableEq, Repr

/-- Why a step is refused. -/
inductive Refusal where
  /-- Raised by an arm of `exec` for an instruction that has no meaning yet; no arm raises it. Safe: nothing is claimed
  of such an instruction. -/
  | notModelled (mnemonic : String)
  deriving DecidableEq, Repr

/-- The state. `st`, `fb`, `cs`, `cntS1` and `cntS2` are the spec's (R20); the others are the model's own (logs 1 to 4). -/
structure State where
  /-- Assembler state (R21). -/
  st : AsmState
  /-- Frame buffer `FB` (R23). -/
  fb : Memory
  /-- ControlState registers (R24 to R29). -/
  cs : ControlState
  /-- Debounce counter of switch 1 (R30). -/
  cntS1 : BitVec 4
  /-- Debounce counter of switch 2 (R30). -/
  cntS2 : BitVec 4
  /-- The instance's build-time parameters (R11); no step writes them (log 3). -/
  cfg : Config
  /-- The input samples the environment presents to the next clock edges, oldest first (log 1). -/
  inputs : List Input
  /-- How many edges found no queued sample: the index of the next free arm draw (log 2). -/
  draws : Nat
  /-- The step outputs of the last clock edge (R34, log 4). -/
  out : StepOut
  deriving DecidableEq, Repr

/-- Every ControlState register at its reset value 0 (R230). -/
def ControlState.reset : ControlState where
  ch0 := 0
  ch1 := 0
  ch2 := 0
  ch3 := 0
  s1 := 0
  s2 := 0
  vx := 0
  vy := 0
  vz := 0
  btn0 := false
  btn1 := false
  keys := 0
  wheel := 0

/-- The step outputs of an edge that takes no step: no request, no strobe (R230); `frame` shows the cleared buffer and
`arm_timeout` its constant (log 9). -/
def StepOut.reset (idleTimeout : Nat) : StepOut where
  armReq := false
  armTimeout := idleTimeout
  stopReq := false
  frameValid := false
  frame := 0#144
  err := 0#2

/-- The machine right after reset (R230). The fields the spec does not have are as logs 1 to 4 say. -/
def State.reset : State where
  st := .idle
  fb := []
  cs := ControlState.reset
  cntS1 := 0
  cntS2 := 0
  cfg := Config.build
  inputs := []
  draws := 0
  out := StepOut.reset Config.build.idleTimeout

end Sys2Proof.Machine
end

