-- ==== Sys2Proof/Machine/Memory.lean ====
section
/-! DEFINITION. The frame buffer as a memory: reading and writing one byte, its canonical form, and its bytes as bit
windows (R60 to R66). -/

namespace Sys2Proof.Machine

/-- The byte at an index; an unlisted byte reads 0x00 (R23, R230). -/
def Memory.read : Memory → Nat → Byte
  | [], _ => 0#8
  | (a, b) :: m, i => if i = a then b else Memory.read m i

/-- The buffer with `v` at index `i`. Writing 0x00 removes the entry, so that equal buffers are equal lists. -/
def Memory.write : Memory → Nat → Byte → Memory
  | [], i, v => if v = 0#8 then [] else [(i, v)]
  | (a, b) :: m, i, v =>
    if i < a then (if v = 0#8 then (a, b) :: m else (i, v) :: (a, b) :: m)
    else if i = a then (if v = 0#8 then m else (i, v) :: m)
    else (a, b) :: Memory.write m i v

/-- Indices strictly rise from `lo`, lie inside the buffer, and no listed byte is 0x00. -/
def Memory.wfFrom : Nat → Memory → Bool
  | _, [] => true
  | lo, (a, b) :: m => decide (lo ≤ a) && decide (a < frameLen) && decide (b ≠ 0#8) && Memory.wfFrom (a + 1) m

/-- The canonical form of the frame buffer. -/
def Memory.wf (m : Memory) : Bool := Memory.wfFrom 0 m

/-- `{FB[i+1], FB[i]}`, the less significant byte at the lower index (R63). -/
def Memory.pair (m : Memory) (i : Nat) : BitVec 16 := m.read (i + 1) ++ m.read i

/-- The channel window `W = {FB[5], FB[4], FB[3], FB[2], FB[1], FB[0]}` (R64, R161). -/
def Memory.window (m : Memory) : BitVec 48 := m.pair 4 ++ m.pair 2 ++ m.pair 0

/-- The raw `frame` output: byte `i` on bits `[8i+7:8i]` (R34). -/
def Memory.frameBits (m : Memory) : BitVec 144 :=
  m.pair 16 ++ m.pair 14 ++ m.pair 12 ++ m.pair 10 ++ m.pair 8 ++ m.pair 6 ++ m.window

end Sys2Proof.Machine
end

