-- ==== Sys2Proof/Machine/Fields.lean ====
section
/-! DEFINITION. The bit-field extraction of the Frame Decoder (R161 to R168, R172 to R179, R185), a pure function of the 18
frame bytes, and the packing of fields back into a frame (R86, R183). -/

namespace Sys2Proof.Machine

/-- `CENTER11(raw) = raw - 1024`, exact, stored as s11 (R166). -/
def center11 (raw : BitVec 11) : BitVec 11 := BitVec.ofInt 11 ((raw.toNat : Int) - 1024)

/-- `RAWCH(F, n) = W[11n+10 : 11n]` (R161). -/
def rawCh (f : Memory) (n : Nat) : BitVec 11 := f.window.extractLsb' (11 * n) 11

/-- `CH(F, n) = CENTER11(RAWCH(F, n))` (R161 to R165). -/
def channel (f : Memory) (n : Nat) : BitVec 11 := center11 (rawCh f n)

/-- `S1RAW(F) = F[5][7:6]` (R167). -/
def s1Raw (f : Memory) : BitVec 2 := (f.read 5).extractLsb' 6 2

/-- `S2RAW(F) = F[5][5:4]` (R168). -/
def s2Raw (f : Memory) : BitVec 2 := (f.read 5).extractLsb' 4 2

/-- `VEL(F, o) = sext_16({F[o+1], F[o]})`, held as its s16 bit pattern (R172 to R174). -/
def velocity (f : Memory) (o : Nat) : BitVec 16 := f.pair o

/-- `F[i][0]`, a button (R175, R176). -/
def button (f : Memory) (i : Nat) : Bool := (f.read i).getLsbD 0

/-- `{F[15], F[14]}` (R177). -/
def keysOf (f : Memory) : BitVec 16 := f.pair 14

/-- `{F[17], F[16]}[10:0]` (R178). -/
def rawWheel (f : Memory) : BitVec 11 := (f.pair 16).extractLsb' 0 11

/-- The wheel, zero-centred as the channels are (R178, C7). -/
def wheelOf (f : Memory) : BitVec 11 := center11 (rawWheel f)

/-- Every field of a frame before the debounce filter: `s1` and `s2` are the candidates (R86). -/
structure FrameFields where
  ch0 : BitVec 11
  ch1 : BitVec 11
  ch2 : BitVec 11
  ch3 : BitVec 11
  s1 : BitVec 2
  s2 : BitVec 2
  vx : BitVec 16
  vy : BitVec 16
  vz : BitVec 16
  btn0 : Bool
  btn1 : Bool
  keys : BitVec 16
  wheel : BitVec 11
  deriving DecidableEq, Repr

/-- The whole extraction (R86, R160). -/
def extractFields (f : Memory) : FrameFields where
  ch0 := channel f 0
  ch1 := channel f 1
  ch2 := channel f 2
  ch3 := channel f 3
  s1 := s1Raw f
  s2 := s2Raw f
  vx := velocity f 6
  vy := velocity f 8
  vz := velocity f 10
  btn0 := button f 12
  btn1 := button f 13
  keys := keysOf f
  wheel := wheelOf f

/-- The raw field of a zero-centred value: `v + 1024` (R183). -/
def uncenter11 (v : BitVec 11) : BitVec 11 := BitVec.ofInt 11 (v.toInt + 1024)

/-- The 48 bits of bytes 0 to 5, from the most significant field down (the table of R86). -/
def packWindow (x : FrameFields) : BitVec 48 :=
  x.s1 ++ x.s2 ++ uncenter11 x.ch3 ++ uncenter11 x.ch2 ++ uncenter11 x.ch1 ++ uncenter11 x.ch0

/-- The 144 bits of the wire frame that carries the given fields (R86), with the 19 unused bits of R87 as given: `u12` and
`u13` above the buttons, `u17` above the wheel. -/
def packFrame (x : FrameFields) (u12 u13 : BitVec 7) (u17 : BitVec 5) : BitVec 144 :=
  u17 ++ uncenter11 x.wheel ++ x.keys ++ u13 ++ BitVec.ofBool x.btn1 ++ u12 ++ BitVec.ofBool x.btn0
    ++ x.vz ++ x.vy ++ x.vx ++ packWindow x

/-- Byte `i` of a 144-bit frame, on bits `[8i+7:8i]` (R34). -/
def frameByte (w : BitVec 144) (i : Nat) : Byte := w.extractLsb' (8 * i) 8

/-- A row of the field table of R185. -/
structure FieldRow where
  offset : Nat
  bytes : Nat
  shift : Nat
  mask : Nat
  centering : Nat
  deriving DecidableEq, Repr

/-- The bytes from an offset, little-endian, as a number (R63, R185). -/
def littleEndian (f : Memory) (offset : Nat) : Nat → Nat
  | 0 => 0
  | n + 1 => (f.read offset).toNat + 256 * littleEndian f (offset + 1) n

/-- A field by its row: `((bytes >> shift) & mask) - centering` (R185). -/
def fieldByRow (f : Memory) (r : FieldRow) : Int :=
  (((littleEndian f r.offset r.bytes) >>> r.shift &&& r.mask : Nat) : Int) - r.centering

end Sys2Proof.Machine
end

