-- ==== Sys2Proof/Machine/Decoder.lean ====
section
/-! DEFINITION. The debounce filter (R169) and the decode of an accepted frame (R160). -/

namespace Sys2Proof.Machine

/-- `DEBOUNCE(acc, cnt, cand)` for threshold `n` (R169): the new accepted value and counter. `cnt + 1` is exact, so it
cannot wrap. -/
def debounce (n : Nat) (acc : BitVec 2) (cnt : BitVec 4) (cand : BitVec 2) : BitVec 2 × BitVec 4 :=
  if cand = acc then (acc, 0#4)
  else if n ≤ cnt.toNat + 1 then (cand, 0#4)
  else (acc, BitVec.ofNat 4 (cnt.toNat + 1))

/-- The ControlState a frame decodes to, given the debounced switches (R160). -/
def controlOf (x : FrameFields) (s1 s2 : BitVec 2) : ControlState where
  ch0 := x.ch0
  ch1 := x.ch1
  ch2 := x.ch2
  ch3 := x.ch3
  s1 := s1
  s2 := s2
  vx := x.vx
  vy := x.vy
  vz := x.vz
  btn0 := x.btn0
  btn1 := x.btn1
  keys := x.keys
  wheel := x.wheel

/-- The filter of switch 1 on the frame in the buffer (R170). -/
def State.debounceS1 (s : State) : BitVec 2 × BitVec 4 :=
  debounce s.cfg.debounceN s.cs.s1 s.cntS1 (s1Raw s.fb)

/-- The filter of switch 2 on the frame in the buffer (R170). -/
def State.debounceS2 (s : State) : BitVec 2 × BitVec 4 :=
  debounce s.cfg.debounceN s.cs.s2 s.cntS2 (s2Raw s.fb)

/-- `DECODE(S.FB)` (R160): every ControlState register and both counters, all together (R180). -/
def State.decodeFrame (s : State) : State :=
  { s with
    cs := controlOf (extractFields s.fb) s.debounceS1.1 s.debounceS2.1
    cntS1 := s.debounceS1.2
    cntS2 := s.debounceS2.2 }

end Sys2Proof.Machine
end

