-- ==== Sys2Proof/Machine/Flags.lean ====
section
/-! DEFINITION. The step outputs (R34, R111): their values before any rule of the step sets them, and the strobes a rule
sets. The block has no condition flags (R32). -/

namespace Sys2Proof.Machine

/-- The default outputs of a step (R111). -/
def State.defaultOut (s : State) : StepOut where
  armReq := false
  armTimeout := s.cfg.idleTimeout
  stopReq := false
  frameValid := false
  frame := s.fb.frameBits
  err := 0#2

/-- The start of a step: the outputs at their defaults, everything else as it is (R111). -/
def State.beginStep (s : State) : State := { s with out := s.defaultOut }

/-- `raise TruncatedFrame`: `err[0] <- 1` (R89, R201). -/
def State.raiseTruncatedFrame (s : State) : State := { s with out := { s.out with err := s.out.err ||| 1#2 } }

/-- `raise TransportRearmFailure`: `err[1] <- 1` (R89, R202). -/
def State.raiseTransportRearmFailure (s : State) : State := { s with out := { s.out with err := s.out.err ||| 2#2 } }

/-- `out.frame_valid <- 1` (R118). -/
def State.strobeFrameValid (s : State) : State := { s with out := { s.out with frameValid := true } }

/-- `out.arm_req <- 1` (R112). -/
def State.strobeArmReq (s : State) : State := { s with out := { s.out with armReq := true } }

/-- `out.stop_req <- 1` (R113). -/
def State.strobeStopReq (s : State) : State := { s with out := { s.out with stopReq := true } }

end Sys2Proof.Machine
end

