-- ==== Sys2Proof/Machine/Operands.lean ====
section
/-! DEFINITION. The operands of a step: the sample of the input ports it takes (R33), the tests on the operands of a
transaction (R61, R117), and the codes of the assembler state (R89). -/

namespace Sys2Proof.Machine

/-- The sample of the input ports at the next clock edge: the first one queued, else `NOP` with a free arm result (R33,
logs 1 and 2). -/
def State.nextInput (s : State) : Input :=
  match s.inputs with
  | [] => ⟨false, 0, Config.armDraw s.draws⟩
  | inp :: _ => inp

/-- `arm_ok`, the transport's answer to an arm request issued in this step (R33). -/
def State.armOk (s : State) : Bool := s.nextInput.armOk

/-- The edge is over: its sample is consumed. This is the block's only "next instruction" (R31). -/
def State.advance (s : State) : State :=
  match s.inputs with
  | [] => { s with draws := s.draws + 1 }
  | _ :: rest => { s with inputs := rest }

/-- The index names a byte of the buffer; 18..31 address nothing (R60, R61). -/
def indexInFrame (idx : Nat) : Bool := decide (idx < frameLen)

/-- The validity test of a burst end (R117). -/
def validBurst (offset length : Nat) : Bool := decide (offset = 0 ∧ length = frameLen)

/-- `lent(st)`: the buffer is registered with the transport (R22). -/
def AsmState.lent : AsmState → Bool
  | .receiving => true
  | .stopping => true
  | .idle => false
  | .frameReady => false
  | .error => false

/-- The code of a state on `asm_state[2:0]` (R21, R89). -/
def AsmState.code : AsmState → BitVec 3
  | .idle => 0
  | .receiving => 1
  | .frameReady => 2
  | .error => 3
  | .stopping => 4

/-- The state a code stands for; the unused codes 5, 6 and 7 are treated as `ERROR` (R21, D40). -/
def AsmState.ofCode (c : BitVec 3) : AsmState :=
  match c.toNat with
  | 0 => .idle
  | 1 => .receiving
  | 2 => .frameReady
  | 4 => .stopping
  | _ => .error

/-- What the consumer reads (R35, R213): `asm_state` and the ControlState outputs; the debounce counters are no output. -/
def State.consumerView (s : State) : BitVec 3 × ControlState := (s.st.code, s.cs)

end Sys2Proof.Machine
end

