-- ==== Sys2Proof/Machine/Ops.lean ====
section
/-! DEFINITION. The operations the transactions share: the byte write (R116), `ARM()` with entry to and return from `ERROR`
(R112, R206, R207), `STOP()` (R113), the re-arm of a burst end (R120), the dispatch on the assembler state (R126 to R128,
R130), and the reset edge (R230). -/

namespace Sys2Proof.Machine

/-- `if idx < 18: S'.FB[idx] <- data` (R61, R116). -/
def State.writeByte (s : State) (idx : Nat) (data : Byte) : State :=
  { s with fb := if indexInFrame idx then s.fb.write idx data else s.fb }

/-- Entry to `ERROR` after a failed arm: `TransportRearmFailure` is raised and nothing but `st` changes (R112, R202,
R206). -/
def State.enterError (s : State) : State := { s.raiseTransportRearmFailure with st := .error }

/-- A successful arm: the buffer is lent and the next burst starts at offset 0; the return from `ERROR` (R112, R207). -/
def State.enterReceiving (s : State) : State := { s with st := .receiving }

/-- `ARM()` (R112). -/
def State.arm (s : State) : State :=
  if s.armOk then s.strobeArmReq.enterReceiving else s.strobeArmReq.enterError

/-- `STOP()` (R113). -/
def State.stop (s : State) : State := { s.strobeStopReq with st := .stopping }

/-- The re-arm of a burst end: `ARM()` under `DOUBLE_BUFFER`, `STOP()` under `SINGLE_SHOT` (R120). -/
def State.rearm (s : State) : State :=
  match s.cfg.policy with
  | .doubleBuffer => s.arm
  | .singleShot => s.stop

/-- The dispatch of R130 on `S.st`: what the transaction does in `RECEIVING`, what it does in `STOPPING`, and `ARM()` in
`IDLE`, in `ERROR` and in the phase `FRAME_READY`, which at the start of a step is treated as `ERROR` (R21, R126, R127). -/
def State.perState (s : State) (whenReceiving whenStopping : State → State) : State :=
  match s.st with
  | .receiving => whenReceiving s.beginStep
  | .stopping => whenStopping s.beginStep
  | .idle => s.beginStep.arm
  | .error => s.beginStep.arm
  | .frameReady => s.beginStep.arm

/-- `skip` (R115, R122, R125, R128). -/
def State.skip (s : State) : State := s

/-- A clock edge with `rst` = 1 takes no step: every piece of state takes its reset value (R230). The instance's parameters
stay, and the edge's sample is consumed (logs 3 and 9). -/
def State.resetEdge (s : State) : State :=
  { State.reset with
    cfg := s.cfg
    inputs := s.inputs
    draws := s.draws
    out := StepOut.reset s.cfg.idleTimeout }.advance

end Sys2Proof.Machine
end

