-- ==== Sys2Proof/Machine/Bursts.lean ====
section
/-! DEFINITION. The transactions that carry a burst: `BYTE_WRITE` (R116) and `BYTES_READY` (R117 to R120). -/

namespace Sys2Proof.Machine

/-- `BYTE_WRITE idx, data` (R116): writes while lent, that is in `RECEIVING` and in `STOPPING` (R128). -/
def execByteWrite (idx : Nat) (data : Byte) (s : State) : Host.Outcome State Fault Refusal :=
  .next (s.perState (fun t => t.writeByte idx data) (fun t => t.writeByte idx data))

/-- The end of a burst before its re-arm: a valid burst is accepted and decoded (R118), an invalid one raises
`TruncatedFrame` and is discarded (R119). -/
def State.endBurst (s : State) (offset length : Nat) : State :=
  if validBurst offset length then s.strobeFrameValid.decodeFrame else s.raiseTruncatedFrame

/-- `BYTES_READY offset, length` (R117 to R120); in `STOPPING` it is ignored (R128). -/
def execBytesReady (offset length : Nat) (s : State) : Host.Outcome State Fault Refusal :=
  .next (s.perState (fun t => (t.endBurst offset length).rearm) State.skip)

end Sys2Proof.Machine
end

