-- ==== Sys2Proof/Machine/Events.lean ====
section
/-! DEFINITION. The transport events without operands that make the assembler request: `BUFFER_NEEDED`,
`RECEPTION_STOPPED` and `RECEPTION_DISABLED`. -/

namespace Sys2Proof.Machine

/-- The proactive re-supply: `ARM()` under `DOUBLE_BUFFER`, nothing under `SINGLE_SHOT` (R121). -/
def State.resupply (s : State) : State :=
  match s.cfg.policy with
  | .doubleBuffer => s.arm
  | .singleShot => s

/-- `BUFFER_NEEDED` (R121); ignored in `STOPPING` (R128). -/
def execBufferNeeded (s : State) : Host.Outcome State Fault Refusal :=
  .next (s.perState State.resupply State.skip)

/-- `RECEPTION_STOPPED`: in `RECEIVING` the burst is discarded and reception re-armed under both policies (R123); in
`STOPPING` it acknowledges the stop (R128). -/
def execReceptionStopped (s : State) : Host.Outcome State Fault Refusal :=
  .next (s.perState (fun t => t.raiseTruncatedFrame.arm) State.arm)

/-- `RECEPTION_DISABLED`: in `RECEIVING` as `RECEPTION_STOPPED` (R124); in `STOPPING` it acknowledges the stop (R128). -/
def execReceptionDisabled (s : State) : Host.Outcome State Fault Refusal :=
  .next (s.perState (fun t => t.raiseTruncatedFrame.arm) State.arm)

end Sys2Proof.Machine
end

