-- ==== Sys2Proof/Machine/Quiet.lean ====
section
/-! DEFINITION. The transactions that have no effect of their own: `NOP`, `BUFFER_RELEASED` and `RSV7`. In `IDLE` and
`ERROR` their step arms like every step there (R126, R127, log 7). -/

namespace Sys2Proof.Machine

/-- `NOP` (R115). -/
def execNop (s : State) : Host.Outcome State Fault Refusal :=
  .next (s.perState State.skip State.skip)

/-- `BUFFER_RELEASED` (R122). -/
def execBufferReleased (s : State) : Host.Outcome State Fault Refusal :=
  .next (s.perState State.skip State.skip)

/-- `RSV7`, reserved, acts as `NOP` (R84, R125, log 8). -/
def execRsv7 (s : State) : Host.Outcome State Fault Refusal :=
  .next (s.perState State.skip State.skip)

end Sys2Proof.Machine
end

