-- ==== Sys2Proof/Machine/Dispatch.lean ====
section
/-! DEFINITION. One arm per transaction of R81, in the table's order. -/

namespace Sys2Proof.Machine

def exec (i : Instr) (s : State) : Host.Outcome State Fault Refusal :=
  match i with
  | .nop => Sys2Proof.Machine.execNop s
  | .byteWrite idx data => Sys2Proof.Machine.execByteWrite idx data s
  | .bytesReady offset length => Sys2Proof.Machine.execBytesReady offset length s
  | .bufferNeeded => Sys2Proof.Machine.execBufferNeeded s
  | .bufferReleased => Sys2Proof.Machine.execBufferReleased s
  | .receptionStopped => Sys2Proof.Machine.execReceptionStopped s
  | .receptionDisabled => Sys2Proof.Machine.execReceptionDisabled s
  | .rsv7 => Sys2Proof.Machine.execRsv7 s

end Sys2Proof.Machine
end

