-- ==== Sys2Proof/Machine/Step.lean ====
section
/-! DEFINITION. One clock edge (R8, R110, R230): a reset, or one step on the transaction at the input ports. -/

namespace Sys2Proof.Machine

/-- One clock edge. With `rst` = 1 it resets (R230); else the transaction word is decoded and run, and its sample is
consumed (R110, R130). -/
def step (s : State) : Host.Outcome State Fault Refusal :=
  if s.nextInput.rst then .next s.resetEdge
  else
    match exec (decode s.nextInput.txn) s with
    | .next t => .next t.advance
    | .fault r => .fault r
    | .refused r => .refused r

/-- `s` with a transaction word at the input ports of the next edge, `rst` low. Where no sample is queued, the arm result
beside it is the syntax's default `/ok` (R16, R90); else the queued sample's arm result stays. -/
def State.withFetchWord (s : State) (nbits w : Nat) : State :=
  match s.inputs with
  | [] => { s with inputs := [⟨false, wordOfBits nbits w, true⟩] }
  | inp :: rest => { s with inputs := ⟨false, wordOfBits nbits w, inp.armOk⟩ :: rest }

end Sys2Proof.Machine
end

