-- ==== Sys2Proof/Machine/Asm.lean ====
section
/-! DEFINITION. The textual syntax of transactions (R16, R90) and the pseudo-transactions (R91): from a line of text to the
samples of the input ports it stands for. The block itself reads no text; nothing of the step uses this file. -/

namespace Sys2Proof.Machine

/-- A line of the syntax of R90 and R91, operands as written. -/
inductive AsmLine where
  /-- A transaction by its name and operands (R90): `NOP`, `BYTE`, `READY`, `NEED`, `RELEASED`, `STOPPED`, `DISABLED` or
  `RSV7`. The data operand of `BYTE` is checked before it becomes a byte. -/
  | plain (i : Instr)
  /-- `.word v` (R90). -/
  | word (v : Nat)
  /-- `BURST d0, ..., d(k-1)` (R91). -/
  | burst (bytes : List Nat)
  /-- `FRAME d0, ..., d17` (R91). -/
  | frame (bytes : List Nat)
  /-- `TRUNC k` (R91). -/
  | trunc (k : Nat)
  deriving DecidableEq, Repr

/-- The number fits a byte. -/
def isByte (n : Nat) : Bool := decide (n < 256)

/-- The operand ranges of R90 and R91: an operand out of range is an assembly error. -/
def AsmLine.wellFormed : AsmLine → Bool
  | .plain i => i.wellFormed
  | .word v => decide (v < 65536)
  | .burst bytes => decide (1 ≤ bytes.length) && decide (bytes.length ≤ 32) && bytes.all isByte
  | .frame bytes => decide (bytes.length = frameLen) && bytes.all isByte
  | .trunc k => decide (k < frameLen)

/-- `BYTE i, d(i)` for the bytes from index `i` on (R91). -/
def byteWords : Nat → List Nat → List Word
  | _, [] => []
  | i, d :: ds => encode (.byteWrite i (BitVec.ofNat 8 d)) :: byteWords (i + 1) ds

/-- One burst from offset 0: its byte writes, then `READY 0, k` (R91). -/
def burstWords (bytes : List Nat) : List Word :=
  byteWords 0 bytes ++ [encode (.bytesReady 0 bytes.length)]

/-- The words a line expands to (R90, R91). -/
def AsmLine.words : AsmLine → List Word
  | .plain i => [encode i]
  | .word v => [BitVec.ofNat 16 v]
  | .burst bytes => burstWords bytes
  | .frame bytes => burstWords bytes
  | .trunc k => burstWords (List.replicate k 0)

/-- The input samples of some words: every one `/ok` but the last, which takes the line's suffix (R16, R91). -/
def samplesOf : List Word → Bool → List Input
  | [], _ => []
  | [w], ok => [⟨false, w, ok⟩]
  | w :: v :: ws, ok => ⟨false, w, true⟩ :: samplesOf (v :: ws) ok

/-- The input samples of a line; none for an operand out of range (R90). -/
def AsmLine.samples (l : AsmLine) (ok : Bool) : Option (List Input) :=
  if l.wellFormed then some (samplesOf l.words ok) else none

/-- A space or tab separates tokens (log 11). -/
def isBlank (c : Char) : Bool := c = ' ' || c = '\t'

/-- The tokens of a line: a comment starts at a semicolon, a comma is a token of its own, and a slash starts a new one
(R90, log 11). `cur` is the token being read, in order. -/
def tokensFrom (cur : List Char) : List Char → List (List Char)
  | [] => if cur = [] then [] else [cur]
  | c :: cs =>
    let done := if cur = [] then [] else [cur]
    if c = ';' then done
    else if isBlank c then done ++ tokensFrom [] cs
    else if c = ',' then done ++ [','] :: tokensFrom [] cs
    else if c = '/' then done ++ tokensFrom ['/'] cs
    else tokensFrom (cur ++ [c]) cs

/-- The value of a digit in the given base. -/
def digitValue (base : Nat) (c : Char) : Option Nat :=
  let v :=
    if '0' ≤ c ∧ c ≤ '9' then c.toNat - '0'.toNat
    else if 'a' ≤ c ∧ c ≤ 'f' then c.toNat - 'a'.toNat + 10
    else if 'A' ≤ c ∧ c ≤ 'F' then c.toNat - 'A'.toNat + 10
    else base
  if v < base then some v else none

/-- The number a list of digits stands for, most significant first, continuing from `acc`. -/
def digitsValue (base acc : Nat) : List Char → Option Nat
  | [] => some acc
  | c :: cs =>
    match digitValue base c with
    | some v => digitsValue base (base * acc + v) cs
    | none => none

/-- A number, decimal or `0x` hexadecimal (R90). -/
def parseNumber : List Char → Option Nat
  | '0' :: 'x' :: c :: cs => digitsValue 16 0 (c :: cs)
  | c :: cs => digitsValue 10 0 (c :: cs)
  | [] => none

/-- Operands separated by commas (R90). -/
def parseOperands : List (List Char) → Option (List Nat)
  | [] => some []
  | [n] => (parseNumber n).map (fun v => [v])
  | n :: [','] :: m :: rest =>
    match parseNumber n, parseOperands (m :: rest) with
    | some v, some vs => some (v :: vs)
    | _, _ => none
  | _ :: _ :: _ => none

/-- A line from its name and operands (the tables of R90 and R91). -/
def lineOf (name : List Char) (operands : List Nat) : Option AsmLine :=
  if name = "BYTE".toList then
    match operands with
    | [idx, data] => if isByte data then some (.plain (.byteWrite idx (BitVec.ofNat 8 data))) else none
    | _ => none
  else if name = "READY".toList then
    match operands with
    | [offset, length] => some (.plain (.bytesReady offset length))
    | _ => none
  else if name = ".word".toList then
    match operands with
    | [v] => some (.word v)
    | _ => none
  else if name = "TRUNC".toList then
    match operands with
    | [k] => some (.trunc k)
    | _ => none
  else if name = "BURST".toList then some (.burst operands)
  else if name = "FRAME".toList then some (.frame operands)
  else if operands = [] then
    if name = "NOP".toList then some (.plain .nop)
    else if name = "NEED".toList then some (.plain .bufferNeeded)
    else if name = "RELEASED".toList then some (.plain .bufferReleased)
    else if name = "STOPPED".toList then some (.plain .receptionStopped)
    else if name = "DISABLED".toList then some (.plain .receptionDisabled)
    else if name = "RSV7".toList then some (.plain .rsv7)
    else none
  else none

/-- The tokens before a line's suffix, and the arm result the suffix gives: `/ok` where there is none (R16, R90). -/
def splitSuffix (tokens : List (List Char)) : List (List Char) × Bool :=
  match tokens.reverse with
  | last :: front =>
    if last = "/fail".toList then (front.reverse, false)
    else if last = "/ok".toList then (front.reverse, true)
    else (tokens, true)
  | [] => ([], true)

/-- The samples of one line of text; none for an assembly error, the empty list for a blank or comment line (R90). -/
def assembleLine (line : List Char) : Option (List Input) :=
  match tokensFrom [] line with
  | [] => some []
  | tokens =>
    match splitSuffix tokens with
    | (name :: operands, ok) =>
      match parseOperands operands with
      | some ns =>
        match lineOf name ns with
        | some l => l.samples ok
        | none => none
      | none => none
    | ([], _) => none

/-- The samples of a program, one transaction a line (R90); none if a line is an assembly error. -/
def assemble : List (List Char) → Option (List Input)
  | [] => some []
  | line :: rest =>
    match assembleLine line, assemble rest with
    | some xs, some ys => some (xs ++ ys)
    | _, _ => none

end Sys2Proof.Machine
end

