-- ==== Sys2Proof/Safety.lean ====
section
/-! DEFINITION. The terms claims use: the invariant of every state a run reaches (R30, R132), what a step leaves unchanged,
what it requests of the transport, and the transport's duties (R211), which are premises of claims and never restrictions
of the step. -/

namespace Sys2Proof.Machine

/-- The invariant at every step boundary: the buffer is canonical and holds 18 bytes at most (R60), `FRAME_READY` is never
held (R129, R132 (i)), `STOPPING` occurs only under `SINGLE_SHOT` (R132 (iii)), and each debounce counter is at most
`DEBOUNCE_N - 1` (R30). -/
abbrev State.Inv (s : State) : Prop :=
  s.fb.wf = true ∧ s.st ≠ .frameReady ∧ (s.st = .stopping → s.cfg.policy = .singleShot)
    ∧ s.cntS1.toNat < s.cfg.debounceN ∧ s.cntS2.toNat < s.cfg.debounceN

/-- Every byte of the buffer reads as before. -/
abbrev SameBuffer (s t : State) : Prop := ∀ a : Nat, t.fb.read a = s.fb.read a

/-- Every ControlState register and both debounce counters are as before. -/
abbrev SameControl (s t : State) : Prop := t.cs = s.cs ∧ t.cntS1 = s.cntS1 ∧ t.cntS2 = s.cntS2

/-- The parameters, the queued samples and the draw counter are as before: no transaction writes them. -/
abbrev SameEnvironment (s t : State) : Prop := t.cfg = s.cfg ∧ t.inputs = s.inputs ∧ t.draws = s.draws

/-- The outputs that no rule of a step sets: `frame` shows the buffer at the start of the step, `arm_timeout` is the
constant `IDLE_TIMEOUT` (R34, R111). -/
abbrev ShowsStart (s t : State) : Prop := t.out.frame = s.fb.frameBits ∧ t.out.armTimeout = s.cfg.idleTimeout

/-- The four strobes of a step: `arm_req`, `stop_req`, `frame_valid` and `err` (R34). -/
abbrev Strobes (t : State) (armReq stopReq frameValid : Bool) (err : BitVec 2) : Prop :=
  t.out.armReq = armReq ∧ t.out.stopReq = stopReq ∧ t.out.frameValid = frameValid ∧ t.out.err = err

/-- The state an `ARM()` of this step leaves (R112). -/
abbrev armedState (s : State) : AsmState := if s.armOk then .receiving else .error

/-- The error strobes of a step that arms: `err[1]` when the arm fails, beside what `TruncatedFrame` gives (R112). -/
abbrev armErr (s : State) (truncated : Bool) : BitVec 2 :=
  (if truncated then 1#2 else 0#2) ||| (if s.armOk then 0#2 else 2#2)

/-- The step raised `TruncatedFrame` (`err[0]`, R89). -/
abbrev truncatedFrame (t : State) : Bool := t.out.err.getLsbD 0

/-- The step raised `TransportRearmFailure` (`err[1]`, R89). -/
abbrev rearmFailure (t : State) : Bool := t.out.err.getLsbD 1

/-- A terminal event ends the transport's current reception (R114). -/
def isTerminal : Instr → Bool
  | .bytesReady _ _ => true
  | .receptionStopped => true
  | .receptionDisabled => true
  | .nop => false
  | .byteWrite _ _ => false
  | .bufferNeeded => false
  | .bufferReleased => false
  | .rsv7 => false

/-- An acknowledgment of a stop (R113, R128). -/
def isAck : Instr → Bool
  | .receptionStopped => true
  | .receptionDisabled => true
  | .nop => false
  | .byteWrite _ _ => false
  | .bytesReady _ _ => false
  | .bufferNeeded => false
  | .bufferReleased => false
  | .rsv7 => false

/-- A transaction that leaves reception running and requests nothing, whatever the policy: what a transport presents while
it fills the buffer. -/
def isFilling : Instr → Bool
  | .nop => true
  | .byteWrite _ _ => true
  | .bufferReleased => true
  | .rsv7 => true
  | .bytesReady _ _ => false
  | .bufferNeeded => false
  | .receptionStopped => false
  | .receptionDisabled => false

/-- The transaction of a sample. -/
def Input.instr (inp : Input) : Instr := decode inp.txn

/-- The byte an index holds after some transactions were taken while the buffer is lent, from its byte `v` before them: the
last byte written there (R116). -/
def lastWritten (i : Nat) (v : Byte) : List Instr → Byte
  | [] => v
  | .byteWrite idx data :: rest => lastWritten i (if idx = i ∧ idx < frameLen then data else v) rest
  | _ :: rest => lastWritten i v rest

/-- Duty T1 (R211): a transaction of kinds 0 to 6, ignored fields zero. -/
def dutyT1 (inp : Input) : Prop := inp.instr ≠ .rsv7 ∧ encode inp.instr = inp.txn

/-- The indices below 18 that some transactions write, in order. -/
def writtenIndices : List Instr → List Nat
  | [] => []
  | .byteWrite idx _ :: rest => if idx < frameLen then idx :: writtenIndices rest else writtenIndices rest
  | _ :: rest => writtenIndices rest

/-- Duty T2 (R211) for one burst: of the transactions since the last successful arm, the burst's indices were written in
order before the report. -/
def dutyT2 (sinceArm : List Instr) (offset length : Nat) : Prop :=
  ((List.range' offset length).filter (fun i => decide (i < frameLen))).Sublist (writtenIndices sinceArm)

/-- One clock edge on a given sample of the input ports. -/
def State.onInput (s : State) (inp : Input) : Host.Outcome State Fault Refusal := step { s with inputs := [inp] }

/-- The state after one clock edge on a given sample; a step always answers a next state, so the other cases do not
occur. -/
def State.after (s : State) (inp : Input) : State :=
  match s.onInput inp with
  | .next t => t
  | .fault _ => s
  | .refused _ => s

/-- The state after the first `n` samples of an endless stream. -/
def runOn (stream : Nat → Input) (s : State) : Nat → State
  | 0 => s
  | n + 1 => (runOn stream s n).after (stream n)

/-- Duty T3 (R211): every `stop_req` is followed, in a later step, by an acknowledgment. -/
def dutyT3 (stream : Nat → Input) (s : State) : Prop :=
  ∀ n, (runOn stream s (n + 1)).out.stopReq = true → ∃ m, n < m ∧ isAck (stream m).instr = true

/-- Fairness T6 (R211): if the block arms again and again, the arm succeeds again and again. -/
def fairnessT6 (stream : Nat → Input) (s : State) : Prop :=
  (∀ n, ∃ m, n ≤ m ∧ (runOn stream s (m + 1)).out.armReq = true) →
    ∀ n, ∃ m, n ≤ m ∧ (runOn stream s (m + 1)).out.armReq = true ∧ (stream m).armOk = true

/-- The step taken on sample `n` of a stream requested an arm (`arm_req`, R34). -/
abbrev armsAt (stream : Nat → Input) (s : State) (n : Nat) : Prop := (runOn stream s (n + 1)).out.armReq = true

/-- The step taken on sample `n` of a stream requested a stop (`stop_req`, R34). -/
abbrev stopsAt (stream : Nat → Input) (s : State) (n : Nat) : Prop := (runOn stream s (n + 1)).out.stopReq = true

/-- Where in the buffer a transaction puts a burst: the index of a `BYTE_WRITE`, the offset of a `BYTES_READY`. -/
def burstPlace : Instr → Option Nat
  | .byteWrite idx _ => some idx
  | .bytesReady offset _ => some offset
  | .nop => none
  | .bufferNeeded => none
  | .bufferReleased => none
  | .receptionStopped => none
  | .receptionDisabled => none
  | .rsv7 => none

/-- A `BYTES_READY`, which ends a burst (R117). -/
def isBurstEnd : Instr → Bool
  | .bytesReady _ _ => true
  | .nop => false
  | .byteWrite _ _ => false
  | .bufferNeeded => false
  | .bufferReleased => false
  | .receptionStopped => false
  | .receptionDisabled => false
  | .rsv7 => false

/-- Duty T4 (R211), `arm_ok` = 1: the next burst starts at offset 0 and replaces any reception in progress. On `txn`: the
first transaction of a burst after the arm is at place 0, and the first burst end after it reports offset 0 (log 14). -/
def dutyT4Success (stream : Nat → Input) (s : State) : Prop :=
  ∀ n, armsAt stream s n → (stream n).armOk = true → ∀ m, n < m →
    ((∀ k, n < k → k < m → burstPlace (stream k).instr = none) →
        burstPlace (stream m).instr = none ∨ burstPlace (stream m).instr = some 0)
      ∧ ((∀ k, n < k → k < m → isBurstEnd (stream k).instr = false) →
          ∀ offset length, (stream m).instr = .bytesReady offset length → offset = 0)

/-- Duty T4 (R211), `arm_ok` = 0: no reception into the buffer continues. On `txn`: the next transaction is none of a burst;
the step that takes it arms again, and the duty speaks of its answer in turn (R127, log 14). -/
def dutyT4Failure (stream : Nat → Input) (s : State) : Prop :=
  ∀ n, armsAt stream s n → (stream n).armOk = false → burstPlace (stream (n + 1)).instr = none

/-- Duty T4 (R211). That `arm_ok` answers the `arm_req` of the same step is the step's own (R33, R112). -/
def dutyT4 (stream : Nat → Input) (s : State) : Prop := dutyT4Success stream s ∧ dutyT4Failure stream s

/-- After sample `n` the reception is ended by a terminal event, or the block arms once more, which replaces it (T4). -/
def receptionEndsAfter (stream : Nat → Input) (s : State) (n : Nat) : Prop :=
  ∃ m, n < m ∧ (isTerminal (stream m).instr = true ∨ armsAt stream s m)

/-- Duty T5 (R211), as far as a port shows it: a `BUFFER_NEEDED` that the block left unanswered (R121), or a buffer filled
up to its last byte, is followed by a terminal event (log 14). -/
def dutyT5 (stream : Nat → Input) (s : State) : Prop :=
  ∀ n, (runOn stream s n).st = .receiving →
    ((stream n).instr = .bufferNeeded ∧ ¬armsAt stream s n) ∨ (∃ data, (stream n).instr = .byteWrite 17 data) →
    receptionEndsAfter stream s n

/-- Duty T7 (R211), as far as a port shows it: a burst that has delivered a byte is ended, by `BYTES_READY` at the idle
timeout or a full buffer unless the reception is stopped or replaced before (log 14). -/
def dutyT7 (stream : Nat → Input) (s : State) : Prop :=
  ∀ n, (runOn stream s n).st = .receiving → (∃ idx data, (stream n).instr = .byteWrite idx data) →
    receptionEndsAfter stream s n

/-- The debounce filter over the candidates of consecutive accepted frames (R169, R171): accepted value and counter. -/
def debounceRun (n : Nat) (start : BitVec 2 × BitVec 4) (cands : List (BitVec 2)) : BitVec 2 × BitVec 4 :=
  cands.foldl (fun p c => debounce n p.1 p.2 c) start

/-- Every ControlState register but the switches shows its field of `x` (the `s1` and `s2` of `x` are candidates). -/
abbrev ShowsFields (t : State) (x : FrameFields) : Prop :=
  t.cs.ch0 = x.ch0 ∧ t.cs.ch1 = x.ch1 ∧ t.cs.ch2 = x.ch2 ∧ t.cs.ch3 = x.ch3
    ∧ t.cs.vx = x.vx ∧ t.cs.vy = x.vy ∧ t.cs.vz = x.vz
    ∧ t.cs.btn0 = x.btn0 ∧ t.cs.btn1 = x.btn1 ∧ t.cs.keys = x.keys ∧ t.cs.wheel = x.wheel

/-- The ControlState and counters that the frame in `f` gives a state `s`, register by register (R160). -/
abbrev DecodedFrom (s : State) (f : Memory) (t : State) : Prop :=
  t.cs.ch0 = channel f 0 ∧ t.cs.ch1 = channel f 1 ∧ t.cs.ch2 = channel f 2 ∧ t.cs.ch3 = channel f 3
    ∧ (t.cs.s1, t.cntS1) = debounce s.cfg.debounceN s.cs.s1 s.cntS1 (s1Raw f)
    ∧ (t.cs.s2, t.cntS2) = debounce s.cfg.debounceN s.cs.s2 s.cntS2 (s2Raw f)
    ∧ t.cs.vx = velocity f 6 ∧ t.cs.vy = velocity f 8 ∧ t.cs.vz = velocity f 10
    ∧ t.cs.btn0 = button f 12 ∧ t.cs.btn1 = button f 13 ∧ t.cs.keys = keysOf f ∧ t.cs.wheel = wheelOf f

/-- A step that changes nothing but the step outputs, all strobes 0. -/
abbrev ChangesNothing (s t : State) : Prop :=
  t.st = s.st ∧ SameBuffer s t ∧ SameControl s t ∧ SameEnvironment s t ∧ ShowsStart s t
    ∧ Strobes t false false false 0#2

/-- A step that arms and changes nothing but `st` and the step outputs; `truncated` says whether it also raised
`TruncatedFrame`. -/
abbrev OnlyArms (s t : State) (truncated : Bool) : Prop :=
  t.st = armedState s ∧ SameBuffer s t ∧ SameControl s t ∧ SameEnvironment s t ∧ ShowsStart s t
    ∧ Strobes t true false false (armErr s truncated)

/-- Every queued sample of a list is a step, not a reset. -/
abbrev NoReset (l : List Input) : Prop := ∀ inp ∈ l, inp.rst = false

end Sys2Proof.Machine
end

