-- ==== Sys2Proof/Certificates/Slice0/Obligations.lean ====
section
/-! DEFINITION. The statements for the provers, from the numbered rules of spec/. -/

open Sys2Proof Sys2Proof.Machine

/-! ### The transaction word -/

/-- Decode and encode agree: every operand at every value its field admits (R80 to R82). -/
def Obligations.DecodeOfEncodeIsIdentity : Prop :=
  ∀ i : Instr, i.wellFormed = true → decode (encode i) = i

/-- The operands are the word's fields, zero-extended (R80, R82), and always in range. -/
def Obligations.OperandsAreTheWordsFields : Prop :=
  ∀ w : Word,
    (decode w).wellFormed = true
      ∧ (w.toNat / 8192 = 1 → decode w = .byteWrite (w.toNat / 256 % 32) (BitVec.ofNat 8 w.toNat))
      ∧ (w.toNat / 8192 = 2 → decode w = .bytesReady (w.toNat / 256 % 32) (w.toNat % 256))

/-- R83: every word selects exactly one row of R81, the decoder reads that row's transaction, and no word traps. -/
def Obligations.EveryWordSelectsExactlyOneRow : Prop :=
  ∀ w : Word,
    (∃! k : Fin 8, w &&& 0xE000#16 = BitVec.ofNat 16 (k.val * 0x2000))
      ∧ w &&& 0xE000#16 = rowMatch (decode w)
      ∧ ∀ s : State, ∃ t, exec (decode w) s = .next t

/-- The canonical word of what a word decodes to: the word itself where both operand fields are read, else the word with
its ignored bits cleared (R82, R90). -/
def Obligations.EncodeOfDecodeClearsIgnoredBits : Prop :=
  ∀ w : Word,
    encode (decode w) = if w.toNat / 8192 = 1 ∨ w.toNat / 8192 = 2 then w else w &&& 0xE000#16

/-- R82, ignored fields: two words of one kind that ignores its fields decode alike and make the same step. -/
def Obligations.IgnoredBitsHaveNoEffect : Prop :=
  ∀ w v : Word, w.toNat / 8192 = v.toNat / 8192 → w.toNat / 8192 ≠ 1 → w.toNat / 8192 ≠ 2 →
    decode w = decode v
      ∧ ∀ (s : State) (ok : Bool) (rest : List Input),
          step { s with inputs := ⟨false, w, ok⟩ :: rest } = step { s with inputs := ⟨false, v, ok⟩ :: rest }

/-- Words written out from the encodings of R81 and the table V-ENC decode to their transactions. -/
def Obligations.WrittenOutWordsDecode : Prop :=
  decode 0b0000000000000000 = .nop ∧ decode 0b0001001000110100 = .nop
    ∧ decode 0b0010001110100101 = .byteWrite 3 0xA5 ∧ decode 0b0011000100000100 = .byteWrite 17 0x04
    ∧ decode 0b0100000000010010 = .bytesReady 0 18 ∧ decode 0b0101111111111111 = .bytesReady 31 255
    ∧ decode 0b0110101010111100 = .bufferNeeded ∧ decode 0b1000000000000000 = .bufferReleased
    ∧ decode 0b1010000000000000 = .receptionStopped ∧ decode 0b1100000000000000 = .receptionDisabled
    ∧ decode 0b1110000000000000 = .rsv7 ∧ decode 0b1111111111111111 = .rsv7

/-! ### The step, reset and the invariant -/

/-- A step runs the decoded transaction and consumes its sample; with nothing queued it runs `NOP` and advances the draw
counter (R33, R110; the queue and the counter are the model's, logs 1 and 2). -/
def Obligations.StepRunsTheDecodedTransaction : Prop :=
  (∀ (s t : State) (inp : Input) (rest : List Input), s.inputs = inp :: rest → inp.rst = false →
      exec (decode inp.txn) s = .next t → step s = .next { t with inputs := rest })
    ∧ ∀ s t : State, s.inputs = [] → exec .nop s = .next t → step s = .next { t with draws := s.draws + 1 }

/-- Every edge answers a next state, and so does every transaction in every state (R9, R110, R204). -/
def Obligations.EveryStepAnswersNext : Prop :=
  (∀ s : State, ∃ t, step s = .next t) ∧ ∀ (i : Instr) (s : State), ∃ t, exec i s = .next t

/-- What reset leaves (the table of R230). -/
def Obligations.ResetLeavesEveryRegisterAtItsValue : Prop :=
  State.reset.st = .idle ∧ State.reset.st.code = 0 ∧ (∀ a, State.reset.fb.read a = 0)
    ∧ State.reset.cs = ⟨0, 0, 0, 0, 0, 0, 0, 0, 0, false, false, 0, 0⟩
    ∧ State.reset.cntS1 = 0 ∧ State.reset.cntS2 = 0 ∧ Strobes State.reset false false false 0

/-- R230: an edge with `rst` = 1 ignores `txn` and `arm_ok`, requests nothing, raises no strobe, and gives every piece of
state its reset value. -/
def Obligations.ResetEdgeGivesEveryResetValue : Prop :=
  ∀ (s : State) (rest : List Input), ∃ t : State,
    (∀ (w : Word) (ok : Bool), step { s with inputs := ⟨true, w, ok⟩ :: rest } = .next t)
      ∧ Strobes t false false false 0
      ∧ t.st = .idle ∧ (∀ a, t.fb.read a = 0) ∧ t.cs = ⟨0, 0, 0, 0, 0, 0, 0, 0, 0, false, false, 0, 0⟩
      ∧ t.cntS1 = 0 ∧ t.cntS2 = 0

/-- The first step after reset arms, whatever its transaction (R231). -/
def Obligations.FirstStepAfterResetArms : Prop :=
  ∀ (w : Word) (ok : Bool), ∃ t, State.reset.onInput ⟨false, w, ok⟩ = .next t
    ∧ t.out.armReq = true ∧ t.out.frameValid = false ∧ t.st = if ok then .receiving else .error

/-- The invariant of R30, R60 and R132 (i), (iii) holds at reset. -/
def Obligations.InvariantHoldsAtReset : Prop := State.reset.Inv

/-- Every edge keeps the invariant of R30, R60 and R132 (i), (iii). -/
def Obligations.EveryStepKeepsTheInvariant : Prop :=
  ∀ s t : State, s.Inv → step s = .next t → t.Inv

/-- The parameters of R11: `DEBOUNCE_N` takes the values 1 to 16 and no other and is 5 where an instance does not configure
it, `FRAME_LEN` is 18, and no edge, a reset edge included, writes a parameter. -/
def Obligations.NoStepWritesAParameter : Prop :=
  (∀ s t : State, step s = .next t → t.cfg = s.cfg)
    ∧ (∀ n : Nat, 1 ≤ n ∧ n ≤ 16 ↔ ∃ c : Config, c.debounceN = n)
    ∧ (∀ (p : RearmPolicy) (timeout : Nat),
        (Config.ofPolicy p timeout).policy = p ∧ (Config.ofPolicy p timeout).debounceN = 5
          ∧ (Config.ofPolicy p timeout).idleTimeout = timeout)
    ∧ frameLen = 18

/-! ### The transactions -/

/-- In `IDLE`, in `ERROR` and at the code of `FRAME_READY` every transaction only arms (R21, R126, R127). -/
def Obligations.UnlentStatesOnlyArm : Prop :=
  ∀ (i : Instr) (s : State), s.st.lent = false → ∃ t, exec i s = .next t ∧ OnlyArms s t false

/-- `NOP`, `BUFFER_RELEASED` and `RSV7` change nothing while the buffer is lent (R115, R122, R125, R128). -/
def Obligations.QuietTransactionsChangeNothing : Prop :=
  ∀ s : State, s.st.lent = true →
    (∃ t, exec .nop s = .next t ∧ ChangesNothing s t)
      ∧ (∃ t, exec .bufferReleased s = .next t ∧ ChangesNothing s t)
      ∧ (∃ t, exec .rsv7 s = .next t ∧ ChangesNothing s t)

/-- `BYTE_WRITE` with an index inside the buffer stores its byte there and nowhere else (R116, R128). -/
def Obligations.ByteWriteStoresItsByte : Prop :=
  ∀ (s : State) (idx : Nat) (data : Byte), s.fb.wf = true → s.st.lent = true → idx < 18 →
    ∃ t, exec (.byteWrite idx data) s = .next t ∧ t.fb.read idx = data
      ∧ (∀ a, a ≠ idx → t.fb.read a = s.fb.read a) ∧ t.fb.wf = true ∧ t.st = s.st
      ∧ SameControl s t ∧ SameEnvironment s t ∧ ShowsStart s t ∧ Strobes t false false false 0#2

/-- `BYTE_WRITE` with an index of 18 or more changes nothing while the buffer is lent (R61, R116). -/
def Obligations.ByteWriteOutsideTheBufferChangesNothing : Prop :=
  ∀ (s : State) (idx : Nat) (data : Byte), s.st.lent = true → 18 ≤ idx →
    ∃ t, exec (.byteWrite idx data) s = .next t ∧ ChangesNothing s t

/-- The only write to the buffer is one byte by `BYTE_WRITE`, inside the buffer, while it is lent (R61, R22). -/
def Obligations.OnlyALentByteWriteChangesTheBuffer : Prop :=
  ∀ (i : Instr) (s t : State) (a : Nat), exec i s = .next t → t.fb.read a ≠ s.fb.read a →
    ∃ data, i = .byteWrite a data ∧ a < 18 ∧ s.st.lent = true ∧ ∀ b, b ≠ a → t.fb.read b = s.fb.read b

/-- Writing the same byte twice leaves the same state as writing it once (R66). -/
def Obligations.ByteWriteIsIdempotent : Prop :=
  ∀ (s t u : State) (idx : Nat) (data : Byte), s.fb.wf = true → s.st.lent = true →
    exec (.byteWrite idx data) s = .next t → exec (.byteWrite idx data) t = .next u →
    u.fb = t.fb ∧ u.st = t.st ∧ SameControl t u

/-- `BYTES_READY 0, 18` in `RECEIVING` accepts the frame, decodes it into every register (R160), and arms or stops by policy
(R118, R120). -/
def Obligations.ValidBurstIsDecodedAndRearmed : Prop :=
  ∀ s : State, s.st = .receiving →
    ∃ t, exec (.bytesReady 0 18) s = .next t ∧ DecodedFrom s s.fb t ∧ SameBuffer s t ∧ SameEnvironment s t
      ∧ ShowsStart s t
      ∧ if s.cfg.policy = .doubleBuffer then t.st = armedState s ∧ Strobes t true false true (armErr s false)
        else t.st = .stopping ∧ Strobes t false true true 0#2

/-- Any other `BYTES_READY` in `RECEIVING` raises `TruncatedFrame`, decodes nothing, and arms or stops by policy (R119,
R120). -/
def Obligations.InvalidBurstIsDiscardedAndRearmed : Prop :=
  ∀ (s : State) (offset length : Nat), s.st = .receiving → ¬(offset = 0 ∧ length = 18) →
    ∃ t, exec (.bytesReady offset length) s = .next t ∧ SameControl s t ∧ SameBuffer s t ∧ SameEnvironment s t
      ∧ ShowsStart s t
      ∧ if s.cfg.policy = .doubleBuffer then t.st = armedState s ∧ Strobes t true false false (armErr s true)
        else t.st = .stopping ∧ Strobes t false true false 1#2

/-- `BYTES_READY` and `BUFFER_NEEDED` change nothing in `STOPPING` (R128). -/
def Obligations.StoppingIgnoresBurstEndsAndRequests : Prop :=
  ∀ (s : State) (offset length : Nat), s.st = .stopping →
    (∃ t, exec (.bytesReady offset length) s = .next t ∧ ChangesNothing s t)
      ∧ ∃ t, exec .bufferNeeded s = .next t ∧ ChangesNothing s t

/-- `BUFFER_NEEDED` in `RECEIVING` arms under `DOUBLE_BUFFER` and changes nothing under `SINGLE_SHOT` (R121). -/
def Obligations.BufferNeededArmsOnlyUnderDoubleBuffer : Prop :=
  ∀ s : State, s.st = .receiving →
    ∃ t, exec .bufferNeeded s = .next t
      ∧ if s.cfg.policy = .doubleBuffer then OnlyArms s t false else ChangesNothing s t

/-- `RECEPTION_STOPPED` and `RECEPTION_DISABLED` in `RECEIVING` raise `TruncatedFrame` and arm under both policies (R123,
R124). -/
def Obligations.UnsolicitedStopDiscardsAndRearms : Prop :=
  ∀ s : State, s.st = .receiving →
    (∃ t, exec .receptionStopped s = .next t ∧ OnlyArms s t true)
      ∧ ∃ t, exec .receptionDisabled s = .next t ∧ OnlyArms s t true

/-- `RECEPTION_STOPPED` and `RECEPTION_DISABLED` in `STOPPING` acknowledge the stop: they arm and raise no strobe of their
own (R128). -/
def Obligations.AcknowledgmentRearms : Prop :=
  ∀ s : State, s.st = .stopping →
    (∃ t, exec .receptionStopped s = .next t ∧ OnlyArms s t false)
      ∧ ∃ t, exec .receptionDisabled s = .next t ∧ OnlyArms s t false

/-! ### Rules of the whole machine -/

/-- R133: `frame_valid` exactly on an accepted burst, and only such a step changes a ControlState register or a counter. -/
def Obligations.FrameValidExactlyOnAcceptedBurst : Prop :=
  ∀ s t : State, s.nextInput.rst = false → step s = .next t →
    (t.out.frameValid = true ↔ s.st = .receiving ∧ decode s.nextInput.txn = .bytesReady 0 18)
      ∧ (t.out.frameValid = false → SameControl s t)

/-- When a step arms and when it stops: the requests of the table of R131, never both, and one of them on every terminal
event in `RECEIVING` (R114). -/
def Obligations.RequestsExactlyByTheTransitionTable : Prop :=
  ∀ (i : Instr) (s t : State), exec i s = .next t →
    (t.out.armReq = true ↔
        s.st.lent = false ∨ isAck i = true
          ∨ (s.st = .receiving ∧ s.cfg.policy = .doubleBuffer
              ∧ (i = .bufferNeeded ∨ ∃ offset length, i = .bytesReady offset length)))
      ∧ (t.out.stopReq = true ↔
          s.st = .receiving ∧ s.cfg.policy = .singleShot ∧ ∃ offset length, i = .bytesReady offset length)
      ∧ ¬(t.out.armReq = true ∧ t.out.stopReq = true)
      ∧ (s.st = .receiving → isTerminal i = true → t.out.armReq = true ∨ t.out.stopReq = true)

/-- When the two error strobes are raised (R201, R202), and that `frame_valid` and `err[0]` are never both 1 (R205). -/
def Obligations.ErrorStrobesExactly : Prop :=
  ∀ (i : Instr) (s t : State), exec i s = .next t →
    (truncatedFrame t = true ↔
        s.st = .receiving
          ∧ (isAck i = true ∨ ∃ offset length, i = .bytesReady offset length ∧ ¬(offset = 0 ∧ length = 18)))
      ∧ (rearmFailure t = true ↔ t.out.armReq = true ∧ s.armOk = false)
      ∧ ¬(t.out.frameValid = true ∧ truncatedFrame t = true)

/-- No silent stall (R132 (v)): after any edge the buffer is lent or the very next step arms, whatever its transaction. -/
def Obligations.NoSilentStall : Prop :=
  ∀ s t : State, step s = .next t →
    t.st.lent = true
      ∨ ∀ (w : Word) (ok : Bool), ∃ u, t.onInput ⟨false, w, ok⟩ = .next u ∧ u.out.armReq = true

/-- R132 (iv), one step of it: after an `ARM()` the buffer is lent exactly when it succeeded, after a `STOP()` it is lent,
and a step that requests nothing leaves the lending as it was. -/
def Obligations.LendingFollowsTheLastRequest : Prop :=
  ∀ s t : State, s.nextInput.rst = false → step s = .next t →
    t.st.lent = if t.out.armReq then s.nextInput.armOk else if t.out.stopReq then true else s.st.lent

/-- R129: no step ends in `FRAME_READY`; a step that accepts a frame ends in `RECEIVING`, `ERROR` or `STOPPING`; a
truncated burst under `DOUBLE_BUFFER` whose re-arm succeeds ends in `RECEIVING`. -/
def Obligations.FrameReadyIsNeverHeld : Prop :=
  ∀ s t : State, s.nextInput.rst = false → step s = .next t →
    t.st ≠ .frameReady
      ∧ (t.out.frameValid = true → t.st = .receiving ∨ t.st = .error ∨ t.st = .stopping)
      ∧ (truncatedFrame t = true → s.cfg.policy = .doubleBuffer → s.nextInput.armOk = true → t.st = .receiving)

/-- `IDLE` is never re-entered except by reset (R126, R132 (ii)). -/
def Obligations.IdleOnlyByReset : Prop :=
  ∀ s t : State, step s = .next t → t.st = .idle → s.nextInput.rst = true

/-- Entering `ERROR` without accepting a frame alters no ControlState register, counter or byte of the buffer (R206), and
only a failed arm enters or holds it (R202). -/
def Obligations.ErrorEntryIsPrecise : Prop :=
  ∀ (i : Instr) (s t : State), exec i s = .next t → t.st = .error →
    rearmFailure t = true ∧ SameBuffer s t ∧ SameEnvironment s t ∧ (t.out.frameValid = false → SameControl s t)

/-- `arm_ok` is read only in a step that arms (R33, I6): in every other step both answers give the same state. -/
def Obligations.ArmResultMattersOnlyWhenArming : Prop :=
  ∀ (s t u : State) (w : Word) (rest : List Input),
    step { s with inputs := ⟨false, w, true⟩ :: rest } = .next t →
    step { s with inputs := ⟨false, w, false⟩ :: rest } = .next u →
    t.out.armReq = u.out.armReq ∧ (t.out.armReq = false → t = u)

/-- The `frame` output of every step shows the buffer as it was at the start of the step, byte `i` on bits `[8i+7:8i]`
(R34), and `arm_timeout` the constant `IDLE_TIMEOUT`. -/
def Obligations.FrameOutputShowsTheBuffer : Prop :=
  ∀ s t : State, s.nextInput.rst = false → step s = .next t →
    t.out.armTimeout = s.cfg.idleTimeout ∧ ∀ i, i < 18 → t.out.frame.extractLsb' (8 * i) 8 = s.fb.read i

/-- The state codes on `asm_state` (R21, R89), and that the unused codes read as `ERROR` (D40). -/
def Obligations.StateCodesOfR89 : Prop :=
  AsmState.idle.code = 0 ∧ AsmState.receiving.code = 1 ∧ AsmState.frameReady.code = 2 ∧ AsmState.error.code = 3
    ∧ AsmState.stopping.code = 4 ∧ (∀ x : AsmState, AsmState.ofCode x.code = x)
    ∧ ∀ c : BitVec 3, 5 ≤ c.toNat → AsmState.ofCode c = .error

/-! ### Several steps -/

/-- A transport that fails every arm holds the block in `ERROR`, arming and failing on every step (R127, R235). -/
def Obligations.FailedArmsHoldError : Prop :=
  ∀ (fails rest : List Input) (s : State), s.st = .error → s.inputs = fails ++ rest → NoReset fails →
    (∀ inp ∈ fails, inp.armOk = false) →
    ∃ t, Host.Core.run Sys2Proof.core fails.length s = .next t ∧ t.st = .error ∧ t.inputs = rest
      ∧ SameBuffer s t ∧ SameControl s t
      ∧ (fails ≠ [] → t.out.armReq = true ∧ rearmFailure t = true)

/-- The first successful arm leaves `ERROR` for `RECEIVING`, however many failed before it and whatever the transactions
(R127, R207). -/
def Obligations.FirstSuccessfulArmLeavesError : Prop :=
  ∀ (fails rest : List Input) (good : Input) (s : State), s.st = .error → s.inputs = fails ++ good :: rest →
    NoReset (fails ++ [good]) → (∀ inp ∈ fails, inp.armOk = false) → good.armOk = true →
    ∃ t, Host.Core.run Sys2Proof.core (fails.length + 1) s = .next t ∧ t.st = .receiving ∧ t.inputs = rest
      ∧ SameBuffer s t ∧ SameControl s t

/-- Without an acknowledgment the block stays in `STOPPING`, makes no request and delivers no frame, however long it waits
and whether or not an acknowledgment ever comes; an acknowledgment then arms and delivers no frame either (R128, R234). -/
def Obligations.StoppingWaitsForTheAcknowledgment : Prop :=
  ∀ (waits rest : List Input) (s : State), s.st = .stopping → s.inputs = waits ++ rest → NoReset waits →
    (∀ inp ∈ waits, isAck inp.instr = false) →
    (∃ t, Host.Core.run Sys2Proof.core waits.length s = .next t ∧ t.st = .stopping ∧ t.inputs = rest ∧ SameControl s t
        ∧ (waits ≠ [] → Strobes t false false false 0#2))
      ∧ ∀ (ack : Input) (later : List Input), rest = ack :: later → ack.rst = false → isAck ack.instr = true →
          ∃ u, Host.Core.run Sys2Proof.core (waits.length + 1) s = .next u ∧ u.inputs = later ∧ SameControl s u
            ∧ u.st = (if ack.armOk then .receiving else .error)
            ∧ Strobes u true false false (if ack.armOk then 0#2 else 2#2)

/-- The frame a valid burst end accepts is the buffer as the byte writes left it: for each index the last byte written, and
where none was written the byte the buffer held before (R116, R118, R236). -/
def Obligations.AcceptedFrameIsTheBytesLastWritten : Prop :=
  ∀ (fills rest : List Input) (ready : Input) (s : State), s.fb.wf = true → s.st = .receiving →
    s.inputs = fills ++ ready :: rest → NoReset (fills ++ [ready]) → (∀ inp ∈ fills, isFilling inp.instr = true) →
    ready.instr = .bytesReady 0 18 →
    ∃ t, Host.Core.run Sys2Proof.core (fills.length + 1) s = .next t ∧ t.out.frameValid = true ∧ t.inputs = rest
      ∧ (∀ i, t.fb.read i = lastWritten i (s.fb.read i) (fills.map Input.instr)) ∧ DecodedFrom s t.fb t

/-- Where the transport meets duty T2 for a burst of 18 bytes, the frame the block accepts and decodes owes nothing to the
bytes the buffer held before: two runs on the same samples from states that differ only in the buffer accept frames of
the same 18 bytes and decode them to the same ControlState and counters (R211 T2, R236). -/
def Obligations.DutyT2LeavesNoStaleByte : Prop :=
  ∀ (fills rest : List Input) (ready : Input) (s : State) (fb' : Memory), s.fb.wf = true → fb'.wf = true →
    s.st = .receiving → s.inputs = fills ++ ready :: rest → NoReset (fills ++ [ready]) →
    (∀ inp ∈ fills, isFilling inp.instr = true) → dutyT2 (fills.map Input.instr) 0 18 → ready.instr = .bytesReady 0 18 →
    ∃ t t', Host.Core.run Sys2Proof.core (fills.length + 1) s = .next t
      ∧ Host.Core.run Sys2Proof.core (fills.length + 1) { s with fb := fb' } = .next t'
      ∧ t.out.frameValid = true ∧ t'.out.frameValid = true ∧ (∀ i, i < 18 → t.fb.read i = t'.fb.read i)
      ∧ t.cs = t'.cs ∧ t.cntS1 = t'.cntS1 ∧ t.cntS2 = t'.cntS2

/-- A `FRAME` of any 18 bytes taken in `RECEIVING` is accepted on its 19th transaction, and the buffer then holds those
bytes (R91, R134). -/
def Obligations.WholeFrameBurstIsAccepted : Prop :=
  ∀ (bytes : List Byte) (ok : Bool) (rest : List Input) (s : State), bytes.length = 18 → s.fb.wf = true →
    s.st = .receiving → s.inputs = samplesOf (AsmLine.frame (bytes.map BitVec.toNat)).words ok ++ rest →
    ∃ t, Host.Core.run Sys2Proof.core 19 s = .next t ∧ t.out.frameValid = true ∧ t.inputs = rest
      ∧ (∀ i (h : i < bytes.length), t.fb.read i = bytes[i]) ∧ DecodedFrom s t.fb t

/-- A truncated burst is followed by `RECEIVING` again: at once under `DOUBLE_BUFFER`, after the acknowledgment under
`SINGLE_SHOT`, where the arm succeeds (R119, R120, R128, R134). -/
def Obligations.TruncatedBurstReturnsToReceiving : Prop :=
  ∀ (s : State) (bad ack : Input) (rest : List Input) (offset length : Nat), s.st = .receiving →
    s.inputs = bad :: ack :: rest → bad.rst = false → ack.rst = false → bad.instr = .bytesReady offset length →
    ¬(offset = 0 ∧ length = 18) → bad.armOk = true → isAck ack.instr = true → ack.armOk = true →
    ∃ t u, step s = .next t ∧ step t = .next u ∧ truncatedFrame t = true ∧ SameControl s t ∧ u.st = .receiving
      ∧ t.st = if s.cfg.policy = .doubleBuffer then .receiving else .stopping

/-- A stop acknowledged by two events: the second arrives in `RECEIVING`, raises a spurious `TruncatedFrame` and arms once
more (R124, R237). -/
def Obligations.SecondAcknowledgmentIsSpuriousTruncation : Prop :=
  ∀ (s : State) (first second : Input) (rest : List Input), s.st = .stopping → s.inputs = first :: second :: rest →
    first.rst = false → second.rst = false → isAck first.instr = true → isAck second.instr = true →
    first.armOk = true →
    ∃ t u, step s = .next t ∧ step t = .next u ∧ t.st = .receiving ∧ t.out.err = 0 ∧ truncatedFrame u = true
      ∧ u.out.armReq = true ∧ SameControl s u ∧ SameBuffer s u

/-- Recovery under the transport's duties (R19, R134, R204, R211, log 14), for a stream without resets. (1) From a state other
than `STOPPING`, where the transport acknowledges every stop (T3) and does not fail every arm (T6), the block returns to
`RECEIVING` again and again. (2) Byte synchronisation (T4): of the first burst end after a successful arm, taken in
`RECEIVING`, the length alone decides whether it is accepted. (3) From a state other than `ERROR`, where no reception
continues after a failed arm (T4), no transaction of a burst is taken, and so lost, in `ERROR`. (4) No stall in `RECEIVING`
(T5, T7): a request for a buffer or a received byte is followed by an `ARM()` or a `STOP()`. -/
def Obligations.ReceivingRecursUnderTheDuties : Prop :=
  ∀ (stream : Nat → Input) (s : State), (∀ n, (stream n).rst = false) →
    (s.st ≠ .stopping → dutyT3 stream s → fairnessT6 stream s →
        ∀ n, ∃ m, n ≤ m ∧ (runOn stream s m).st = .receiving)
      ∧ (dutyT4Success stream s →
          ∀ n m offset length, n < m → armsAt stream s n → (stream n).armOk = true →
            (∀ k, n < k → k < m → isBurstEnd (stream k).instr = false) → (stream m).instr = .bytesReady offset length →
            (runOn stream s m).st = .receiving → ((runOn stream s (m + 1)).out.frameValid = true ↔ length = 18))
      ∧ (dutyT4Failure stream s → s.st ≠ .error →
          ∀ n, (runOn stream s n).st = .error → burstPlace (stream n).instr = none)
      ∧ (dutyT5 stream s → dutyT7 stream s →
          ∀ n, (runOn stream s n).st = .receiving →
            ((stream n).instr = .bufferNeeded ∨ ∃ idx data, (stream n).instr = .byteWrite idx data) →
            ∃ m, n ≤ m ∧ (armsAt stream s m ∨ stopsAt stream s m))

/-! ### The frame decoder -/

/-- The channels and the wheel by the shift and mask of their rules (R162 to R165, R178). -/
def Obligations.ChannelsByShiftAndMask : Prop :=
  ∀ f : Memory,
    (channel f 0).toInt = (((f.read 0).toNat ||| (f.read 1).toNat <<< 8) &&& 0x7FF : Nat) - 1024
      ∧ (channel f 1).toInt = (((f.read 1).toNat >>> 3 ||| (f.read 2).toNat <<< 5) &&& 0x7FF : Nat) - 1024
      ∧ (channel f 2).toInt
          = (((f.read 2).toNat >>> 6 ||| (f.read 3).toNat <<< 2 ||| (f.read 4).toNat <<< 10) &&& 0x7FF : Nat) - 1024
      ∧ (channel f 3).toInt = (((f.read 4).toNat >>> 1 ||| (f.read 5).toNat <<< 7) &&& 0x7FF : Nat) - 1024
      ∧ (wheelOf f).toInt = (((f.read 16).toNat ||| (f.read 17).toNat <<< 8) &&& 0x7FF : Nat) - 1024

/-- R166: the zero-centring is an exact subtraction, inverts the top bit, and is shared by channels and wheel. -/
def Obligations.ZeroCenteringIsExact : Prop :=
  (∀ raw : BitVec 11, (center11 raw).toInt = (raw.toNat : Int) - 1024 ∧ -1024 ≤ (center11 raw).toInt
      ∧ (center11 raw).toInt ≤ 1023 ∧ center11 raw = raw ^^^ 0x400#11)
    ∧ ∀ (f : Memory) (n : Nat), channel f n = center11 (rawCh f n) ∧ wheelOf f = center11 (rawWheel f)

/-- R185: every field by its row of the table, and the offsets and shifts of `ch1` to `ch3` from bit `11n`. -/
def Obligations.EveryFieldByItsTableRow : Prop :=
  (∀ f : Memory,
      fieldByRow f ⟨0, 2, 0, 0x7FF, 1024⟩ = (extractFields f).ch0.toInt
        ∧ fieldByRow f ⟨1, 2, 3, 0x7FF, 1024⟩ = (extractFields f).ch1.toInt
        ∧ fieldByRow f ⟨2, 3, 6, 0x7FF, 1024⟩ = (extractFields f).ch2.toInt
        ∧ fieldByRow f ⟨4, 2, 1, 0x7FF, 1024⟩ = (extractFields f).ch3.toInt
        ∧ fieldByRow f ⟨5, 1, 6, 0x3, 0⟩ = (extractFields f).s1.toNat
        ∧ fieldByRow f ⟨5, 1, 4, 0x3, 0⟩ = (extractFields f).s2.toNat
        ∧ BitVec.ofInt 16 (fieldByRow f ⟨6, 2, 0, 0xFFFF, 0⟩) = (extractFields f).vx
        ∧ BitVec.ofInt 16 (fieldByRow f ⟨8, 2, 0, 0xFFFF, 0⟩) = (extractFields f).vy
        ∧ BitVec.ofInt 16 (fieldByRow f ⟨10, 2, 0, 0xFFFF, 0⟩) = (extractFields f).vz
        ∧ fieldByRow f ⟨12, 1, 0, 0x1, 0⟩ = (if (extractFields f).btn0 then 1 else 0)
        ∧ fieldByRow f ⟨13, 1, 0, 0x1, 0⟩ = (if (extractFields f).btn1 then 1 else 0)
        ∧ fieldByRow f ⟨14, 2, 0, 0xFFFF, 0⟩ = (extractFields f).keys.toNat
        ∧ fieldByRow f ⟨16, 2, 0, 0x7FF, 1024⟩ = (extractFields f).wheel.toInt)
    ∧ 11 * 1 = 8 * 1 + 3 ∧ 11 * 2 = 8 * 2 + 6 ∧ 11 * 3 = 8 * 4 + 1

/-- The velocities are two's complement with the low byte first (R172 to R174), and key `k` is bit `k` of the two key
bytes, low byte first (R177). -/
def Obligations.VelocitiesAndKeysAreLittleEndian : Prop :=
  (∀ (f : Memory) (o : Nat),
      (velocity f o).toInt =
        ((f.read o).toNat + 256 * (f.read (o + 1)).toNat : Int) - (if (f.read (o + 1)).toNat < 128 then 0 else 65536))
    ∧ ∀ (f : Memory) (k : Nat), k < 16 →
        (keysOf f).getLsbD k = if k < 8 then (f.read 14).getLsbD k else (f.read 15).getLsbD (k - 8)

/-- Packing fields into a wire frame and extracting them gives the fields back, whatever the unused bits (R86, R183). -/
def Obligations.PackedFrameExtractsToItsFields : Prop :=
  ∀ (x : FrameFields) (u12 u13 : BitVec 7) (u17 : BitVec 5) (f : Memory),
    (∀ i, i < 18 → f.read i = frameByte (packFrame x u12 u13 u17) i) → extractFields f = x

/-- Every frame is the packing of its extracted fields and its 19 unused bits: no other bit of the 18 bytes is lost (R86,
R87). -/
def Obligations.EveryFrameIsThePackingOfItsFields : Prop :=
  ∀ f : Memory,
    f.frameBits = packFrame (extractFields f) ((f.read 12).extractLsb' 1 7) ((f.read 13).extractLsb' 1 7)
      ((f.read 17).extractLsb' 3 5)

/-- The unused bits of bytes 12, 13 and 17 affect no field (R87). -/
def Obligations.UnusedFrameBitsAffectNoField : Prop :=
  ∀ f g : Memory, (∀ i, i < 18 → i ≠ 12 → i ≠ 13 → i ≠ 17 → f.read i = g.read i) →
    (f.read 12).getLsbD 0 = (g.read 12).getLsbD 0 → (f.read 13).getLsbD 0 = (g.read 13).getLsbD 0 →
    (f.read 17).extractLsb' 0 3 = (g.read 17).extractLsb' 0 3 → extractFields f = extractFields g

/-- R183: a channel whose window bits, or a wheel whose bytes, hold `v + 1024` decodes to `v`, whatever the other bits. -/
def Obligations.ChannelAndWheelRoundTrip : Prop :=
  ∀ (f : Memory) (v : Int), -1024 ≤ v → v ≤ 1023 →
    (∀ n, n < 4 → ((f.window.extractLsb' (11 * n) 11).toNat : Int) = v + 1024 → (channel f n).toInt = v)
      ∧ ((((f.read 17).extractLsb' 0 3 ++ f.read 16 : BitVec 11).toNat : Int) = v + 1024 → (wheelOf f).toInt = v)

/-- R182. After any decode the channels and the wheel hold their raw field minus 1024, in -1024 to 1023; the velocities hold
their two bytes as a signed number, in -32768 to 32767; a switch is in 0 to 3 and holds its candidate or what it held. Every
value of each range is produced by some frame: any fields `x` have a frame whose decode from any state shows them in the
registers, and whose switches, whatever was accepted before, are accepted once it has been decoded `DEBOUNCE_N` times. -/
def Obligations.FieldRangesAreExact : Prop :=
  (∀ s : State,
      (∀ p ∈ [(s.decodeFrame.cs.ch0, rawCh s.fb 0), (s.decodeFrame.cs.ch1, rawCh s.fb 1),
          (s.decodeFrame.cs.ch2, rawCh s.fb 2), (s.decodeFrame.cs.ch3, rawCh s.fb 3),
          (s.decodeFrame.cs.wheel, rawWheel s.fb)],
          p.1.toInt = (p.2.toNat : Int) - 1024 ∧ -1024 ≤ p.1.toInt ∧ p.1.toInt ≤ 1023)
        ∧ (∀ p ∈ [(s.decodeFrame.cs.vx, 6), (s.decodeFrame.cs.vy, 8), (s.decodeFrame.cs.vz, 10)],
            p.1.toInt = (littleEndian s.fb p.2 2 : Int) - (if littleEndian s.fb p.2 2 < 32768 then 0 else 65536)
              ∧ -32768 ≤ p.1.toInt ∧ p.1.toInt ≤ 32767)
        ∧ (s.decodeFrame.cs.s1 = s.cs.s1 ∨ s.decodeFrame.cs.s1 = s1Raw s.fb) ∧ s.decodeFrame.cs.s1.toNat ≤ 3
        ∧ (s.decodeFrame.cs.s2 = s.cs.s2 ∨ s.decodeFrame.cs.s2 = s2Raw s.fb) ∧ s.decodeFrame.cs.s2.toNat ≤ 3)
    ∧ ∀ x : FrameFields, ∃ f : Memory, f.wf = true ∧ ∀ s : State,
        ShowsFields { s with fb := f }.decodeFrame x
          ∧ ∀ k : Nat,
              (State.decodeFrame^[s.cfg.debounceN + k] { s with fb := f }).cs.s1 = x.s1
                ∧ (State.decodeFrame^[s.cfg.debounceN + k] { s with fb := f }).cs.s2 = x.s2

/-! ### The debounce filter -/

/-- R169, case by case: a match resets the counter; a mismatch below the threshold counts, without wrapping; a mismatch
that reaches it accepts this frame's candidate. -/
def Obligations.DebounceStepByStep : Prop :=
  ∀ (n : Nat) (acc cand : BitVec 2) (cnt : BitVec 4), 1 ≤ n → n ≤ 16 →
    (cand = acc → debounce n acc cnt cand = (acc, 0))
      ∧ (cand ≠ acc → n ≤ cnt.toNat + 1 → debounce n acc cnt cand = (cand, 0))
      ∧ (cand ≠ acc → cnt.toNat + 1 < n →
          (debounce n acc cnt cand).1 = acc ∧ (debounce n acc cnt cand).2.toNat = cnt.toNat + 1)

/-- R184: `N - 1` consecutive differing frames keep the accepted value and the `N`-th sets it to its own candidate; a frame
that agrees resets the counter, and a value that reappears in every `N` consecutive frames is never given up. -/
def Obligations.DebounceLaws : Prop :=
  ∀ (n : Nat) (v0 : BitVec 2), 1 ≤ n → n ≤ 16 →
    (∀ (cands : List (BitVec 2)) (last : BitVec 2), cands.length = n - 1 → (∀ c ∈ cands, c ≠ v0) → last ≠ v0 →
        (debounceRun n (v0, 0) cands).1 = v0 ∧ (debounceRun n (v0, 0) (cands ++ [last])).1 = last)
      ∧ (∀ (acc : BitVec 2) (cnt : BitVec 4), debounce n acc cnt acc = (acc, 0))
      ∧ ∀ cands : List (BitVec 2), (∀ i, i + n ≤ cands.length → v0 ∈ (cands.drop i).take n) →
          (debounceRun n (v0, 0) cands).1 = v0

/-- The two switch filters are independent (R170): the outcome for one switch depends on its own value, counter and
candidate bits alone. -/
def Obligations.SwitchFiltersAreIndependent : Prop :=
  ∀ s t : State, s.cfg = t.cfg →
    (s.cs.s1 = t.cs.s1 → s.cntS1 = t.cntS1 → (s.fb.read 5).extractLsb' 6 2 = (t.fb.read 5).extractLsb' 6 2 →
        s.decodeFrame.cs.s1 = t.decodeFrame.cs.s1 ∧ s.decodeFrame.cntS1 = t.decodeFrame.cntS1)
      ∧ (s.cs.s2 = t.cs.s2 → s.cntS2 = t.cntS2 → (s.fb.read 5).extractLsb' 4 2 = (t.fb.read 5).extractLsb' 4 2 →
          s.decodeFrame.cs.s2 = t.decodeFrame.cs.s2 ∧ s.decodeFrame.cntS2 = t.decodeFrame.cntS2)

/-! ### The textual syntax -/

/-- The forms of R90 assemble to the table's words, and operands out of range are assembly errors. -/
def Obligations.SyntaxFormsAssembleToTheirWords : Prop :=
  (∀ idx data : Nat,
      (lineOf "BYTE".toList [idx, data]).bind (AsmLine.samples · true)
        = if idx < 32 ∧ data < 256 then some [⟨false, BitVec.ofNat 16 (0x2000 + idx * 256 + data), true⟩] else none)
    ∧ (∀ offset length : Nat,
        (lineOf "READY".toList [offset, length]).bind (AsmLine.samples · true)
          = if offset < 32 ∧ length < 256 then some [⟨false, BitVec.ofNat 16 (0x4000 + offset * 256 + length), true⟩]
            else none)
    ∧ (∀ v : Nat,
        (lineOf ".word".toList [v]).bind (AsmLine.samples · true)
          = if v < 65536 then some [⟨false, BitVec.ofNat 16 v, true⟩] else none)
    ∧ (lineOf "NOP".toList []).bind (AsmLine.samples · true) = some [⟨false, 0x0000, true⟩]
    ∧ (lineOf "NEED".toList []).bind (AsmLine.samples · true) = some [⟨false, 0x6000, true⟩]
    ∧ (lineOf "RELEASED".toList []).bind (AsmLine.samples · true) = some [⟨false, 0x8000, true⟩]
    ∧ (lineOf "STOPPED".toList []).bind (AsmLine.samples · true) = some [⟨false, 0xA000, true⟩]
    ∧ (lineOf "DISABLED".toList []).bind (AsmLine.samples · true) = some [⟨false, 0xC000, true⟩]
    ∧ (lineOf "RSV7".toList []).bind (AsmLine.samples · true) = some [⟨false, 0xE000, true⟩]

/-- `BURST` of `k` bytes expands to `k` byte writes in index order and `READY 0, k`, and only the last sample takes the
line's suffix; `FRAME` is `BURST` of 18 bytes and `TRUNC k` a burst of `k` zero bytes (R91). -/
def Obligations.PseudoTransactionsExpand : Prop :=
  ∀ (bytes : List Nat) (ok : Bool), 1 ≤ bytes.length → bytes.length ≤ 32 → (∀ d ∈ bytes, d < 256) →
    (∃ l, (AsmLine.burst bytes).samples ok = some l ∧ l.length = bytes.length + 1
        ∧ (∀ i (h : i < bytes.length), l[i]? = some ⟨false, BitVec.ofNat 16 (0x2000 + i * 256 + bytes[i]), true⟩)
        ∧ l[bytes.length]? = some ⟨false, BitVec.ofNat 16 (0x4000 + bytes.length), ok⟩)
      ∧ (AsmLine.frame bytes).samples ok = (if bytes.length = 18 then (AsmLine.burst bytes).samples ok else none)
      ∧ ∀ k, (AsmLine.trunc k).samples ok
          = if k = 0 then some [⟨false, 0x4000, ok⟩]
            else if k < 18 then (AsmLine.burst (List.replicate k 0)).samples ok else none
end

