-- ==== Sys2Proof/Laws/Memory.lean ====
section
/-! SUPPORT. The laws of the frame buffer: reading after writing, and that a write keeps the canonical form. -/

namespace Sys2Proof.Machine

@[simp] theorem Memory.read_nil (i : Nat) : Memory.read [] i = 0#8 := rfl

/-- A canonical tail lists nothing below its lower bound. -/
theorem Memory.read_below {m : Memory} {lo i : Nat} (h : Memory.wfFrom lo m = true) (hi : i < lo) : m.read i = 0#8 := by
  induction m generalizing lo with
  | nil => rfl
  | cons c m ih =>
    obtain ⟨a, b⟩ := c
    simp only [Memory.wfFrom, Bool.and_eq_true, decide_eq_true_eq] at h
    obtain ⟨⟨⟨h1, _⟩, _⟩, h4⟩ := h
    simp only [Memory.read]
    rw [if_neg (by omega)]
    exact ih h4 (by omega)

/-- Reading the index just written gives the byte written. -/
theorem Memory.read_write_same {m : Memory} {lo i : Nat} (v : Byte) (h : Memory.wfFrom lo m = true) :
    (m.write i v).read i = v := by
  induction m generalizing lo with
  | nil =>
    simp only [Memory.write]
    split <;> simp_all [Memory.read]
  | cons c m ih =>
    obtain ⟨a, b⟩ := c
    have h' := h
    simp only [Memory.wfFrom, Bool.and_eq_true, decide_eq_true_eq] at h
    obtain ⟨_, h4⟩ := h
    simp only [Memory.write]
    by_cases h1 : i < a
    · simp only [h1, if_true]
      by_cases hv : v = 0#8
      · simp only [hv, if_true]
        have : Memory.wfFrom a ((a, b) :: m) = true := by
          simp only [Memory.wfFrom, Bool.and_eq_true, decide_eq_true_eq] at h' ⊢
          exact ⟨⟨⟨Nat.le_refl a, h'.1.1.2⟩, h'.1.2⟩, h'.2⟩
        exact Memory.read_below this h1
      · simp [hv, Memory.read]
    · simp only [h1, if_false]
      by_cases h2 : i = a
      · simp only [h2, if_true]
        by_cases hv : v = 0#8
        · simp only [hv, if_true]
          exact Memory.read_below h4 (by omega)
        · simp [hv, Memory.read]
      · simp only [h2, if_false, Memory.read]
        exact ih h4

/-- A write leaves every other index alone. -/
theorem Memory.read_write_ne (m : Memory) {i j : Nat} (v : Byte) (h : j ≠ i) : (m.write i v).read j = m.read j := by
  induction m with
  | nil =>
    simp only [Memory.write]
    split <;> simp [Memory.read, h]
  | cons c m ih =>
    obtain ⟨a, b⟩ := c
    simp only [Memory.write]
    by_cases h1 : i < a
    · simp only [h1, if_true]
      split <;> simp [Memory.read, h]
    · simp only [h1, if_false]
      by_cases h2 : i = a
      · subst h2
        simp only [if_true]
        split <;> simp [Memory.read, h]
      · simp only [h2, if_false, Memory.read, ih]

/-- A write inside the buffer keeps the canonical form from any lower bound the index respects. -/
theorem Memory.wfFrom_write {m : Memory} {lo i : Nat} (v : Byte) (h : Memory.wfFrom lo m = true) (hlo : lo ≤ i)
    (hi : i < frameLen) : Memory.wfFrom lo (m.write i v) = true := by
  induction m generalizing lo with
  | nil =>
    simp only [Memory.write]
    split <;> simp_all [Memory.wfFrom]
  | cons c m ih =>
    obtain ⟨a, b⟩ := c
    simp only [Memory.wfFrom, Bool.and_eq_true, decide_eq_true_eq] at h
    obtain ⟨⟨⟨h1, h2⟩, h3⟩, h4⟩ := h
    have hw {k n : Nat} {m' : Memory} (hk : k ≤ n) (hm : Memory.wfFrom n m' = true) : Memory.wfFrom k m' = true := by
      cases m' with
      | nil => rfl
      | cons c' m' =>
        simp only [Memory.wfFrom, Bool.and_eq_true, decide_eq_true_eq] at hm ⊢
        exact ⟨⟨⟨by omega, hm.1.1.2⟩, hm.1.2⟩, hm.2⟩
    simp only [Memory.write]
    by_cases ha : i < a
    · simp only [ha, if_true]
      split
      · simp [Memory.wfFrom, h1, h2, h3, h4]
      · simp_all [Memory.wfFrom]
    · simp only [ha, if_false]
      by_cases he : i = a
      · simp only [he, if_true]
        split
        · exact hw (by omega) h4
        · simp_all [Memory.wfFrom]
      · simp only [he, if_false, Memory.wfFrom, Bool.and_eq_true, decide_eq_true_eq]
        exact ⟨⟨⟨h1, h2⟩, h3⟩, ih h4 (by omega)⟩

/-- Every write of the machine keeps the canonical form: `writeByte` writes only inside the buffer. -/
theorem writeByte_wf {s : State} (idx : Nat) (data : Byte) (h : s.fb.wf = true) : (s.writeByte idx data).fb.wf = true := by
  unfold State.writeByte indexInFrame
  by_cases hi : idx < frameLen
  · simpa [hi, Memory.wf] using Memory.wfFrom_write data h (Nat.zero_le idx) hi
  · simpa [hi] using h

/-- What a byte write does to the byte at an index: the new byte at the index written, if it lies in the buffer. -/
theorem writeByte_read {s : State} (idx : Nat) (data : Byte) (h : s.fb.wf = true) (a : Nat) :
    (s.writeByte idx data).fb.read a = if a = idx ∧ idx < frameLen then data else s.fb.read a := by
  unfold State.writeByte indexInFrame
  by_cases hi : idx < frameLen
  · by_cases ha : a = idx
    · subst ha
      simpa [hi] using Memory.read_write_same data h
    · simpa [hi, ha] using Memory.read_write_ne s.fb data ha
  · simp [hi]

/-- The buffer after reset is canonical. -/
theorem reset_wf : State.reset.fb.wf = true := rfl

end Sys2Proof.Machine
end

