-- ==== Sys2Proof/Laws/State.lean ====
section
/-! SUPPORT. One lemma per field per update of the state, and per field of the extraction, each true by rfl, so that no
proof unfolds a record update. -/

namespace Sys2Proof.Machine

variable (s : State)

@[simp] theorem beginStep_st : (s.beginStep).st = s.st := rfl
@[simp] theorem beginStep_fb : (s.beginStep).fb = s.fb := rfl
@[simp] theorem beginStep_cs : (s.beginStep).cs = s.cs := rfl
@[simp] theorem beginStep_cntS1 : (s.beginStep).cntS1 = s.cntS1 := rfl
@[simp] theorem beginStep_cntS2 : (s.beginStep).cntS2 = s.cntS2 := rfl
@[simp] theorem beginStep_cfg : (s.beginStep).cfg = s.cfg := rfl
@[simp] theorem beginStep_inputs : (s.beginStep).inputs = s.inputs := rfl
@[simp] theorem beginStep_draws : (s.beginStep).draws = s.draws := rfl
@[simp] theorem beginStep_armReq : (s.beginStep).out.armReq = false := rfl
@[simp] theorem beginStep_armTimeout : (s.beginStep).out.armTimeout = s.cfg.idleTimeout := rfl
@[simp] theorem beginStep_stopReq : (s.beginStep).out.stopReq = false := rfl
@[simp] theorem beginStep_frameValid : (s.beginStep).out.frameValid = false := rfl
@[simp] theorem beginStep_frame : (s.beginStep).out.frame = s.fb.frameBits := rfl
@[simp] theorem beginStep_err : (s.beginStep).out.err = 0#2 := rfl

@[simp] theorem raiseTruncatedFrame_st : (s.raiseTruncatedFrame).st = s.st := rfl
@[simp] theorem raiseTruncatedFrame_fb : (s.raiseTruncatedFrame).fb = s.fb := rfl
@[simp] theorem raiseTruncatedFrame_cs : (s.raiseTruncatedFrame).cs = s.cs := rfl
@[simp] theorem raiseTruncatedFrame_cntS1 : (s.raiseTruncatedFrame).cntS1 = s.cntS1 := rfl
@[simp] theorem raiseTruncatedFrame_cntS2 : (s.raiseTruncatedFrame).cntS2 = s.cntS2 := rfl
@[simp] theorem raiseTruncatedFrame_cfg : (s.raiseTruncatedFrame).cfg = s.cfg := rfl
@[simp] theorem raiseTruncatedFrame_inputs : (s.raiseTruncatedFrame).inputs = s.inputs := rfl
@[simp] theorem raiseTruncatedFrame_draws : (s.raiseTruncatedFrame).draws = s.draws := rfl
@[simp] theorem raiseTruncatedFrame_armReq : (s.raiseTruncatedFrame).out.armReq = s.out.armReq := rfl
@[simp] theorem raiseTruncatedFrame_armTimeout : (s.raiseTruncatedFrame).out.armTimeout = s.out.armTimeout := rfl
@[simp] theorem raiseTruncatedFrame_stopReq : (s.raiseTruncatedFrame).out.stopReq = s.out.stopReq := rfl
@[simp] theorem raiseTruncatedFrame_frameValid : (s.raiseTruncatedFrame).out.frameValid = s.out.frameValid := rfl
@[simp] theorem raiseTruncatedFrame_frame : (s.raiseTruncatedFrame).out.frame = s.out.frame := rfl
@[simp] theorem raiseTruncatedFrame_err : (s.raiseTruncatedFrame).out.err = s.out.err ||| 1#2 := rfl

@[simp] theorem raiseTransportRearmFailure_st : (s.raiseTransportRearmFailure).st = s.st := rfl
@[simp] theorem raiseTransportRearmFailure_fb : (s.raiseTransportRearmFailure).fb = s.fb := rfl
@[simp] theorem raiseTransportRearmFailure_cs : (s.raiseTransportRearmFailure).cs = s.cs := rfl
@[simp] theorem raiseTransportRearmFailure_cntS1 : (s.raiseTransportRearmFailure).cntS1 = s.cntS1 := rfl
@[simp] theorem raiseTransportRearmFailure_cntS2 : (s.raiseTransportRearmFailure).cntS2 = s.cntS2 := rfl
@[simp] theorem raiseTransportRearmFailure_cfg : (s.raiseTransportRearmFailure).cfg = s.cfg := rfl
@[simp] theorem raiseTransportRearmFailure_inputs : (s.raiseTransportRearmFailure).inputs = s.inputs := rfl
@[simp] theorem raiseTransportRearmFailure_draws : (s.raiseTransportRearmFailure).draws = s.draws := rfl
@[simp] theorem raiseTransportRearmFailure_armReq : (s.raiseTransportRearmFailure).out.armReq = s.out.armReq := rfl
@[simp] theorem raiseTransportRearmFailure_armTimeout : (s.raiseTransportRearmFailure).out.armTimeout = s.out.armTimeout := rfl
@[simp] theorem raiseTransportRearmFailure_stopReq : (s.raiseTransportRearmFailure).out.stopReq = s.out.stopReq := rfl
@[simp] theorem raiseTransportRearmFailure_frameValid : (s.raiseTransportRearmFailure).out.frameValid = s.out.frameValid := rfl
@[simp] theorem raiseTransportRearmFailure_frame : (s.raiseTransportRearmFailure).out.frame = s.out.frame := rfl
@[simp] theorem raiseTransportRearmFailure_err : (s.raiseTransportRearmFailure).out.err = s.out.err ||| 2#2 := rfl

@[simp] theorem strobeFrameValid_st : (s.strobeFrameValid).st = s.st := rfl
@[simp] theorem strobeFrameValid_fb : (s.strobeFrameValid).fb = s.fb := rfl
@[simp] theorem strobeFrameValid_cs : (s.strobeFrameValid).cs = s.cs := rfl
@[simp] theorem strobeFrameValid_cntS1 : (s.strobeFrameValid).cntS1 = s.cntS1 := rfl
@[simp] theorem strobeFrameValid_cntS2 : (s.strobeFrameValid).cntS2 = s.cntS2 := rfl
@[simp] theorem strobeFrameValid_cfg : (s.strobeFrameValid).cfg = s.cfg := rfl
@[simp] theorem strobeFrameValid_inputs : (s.strobeFrameValid).inputs = s.inputs := rfl
@[simp] theorem strobeFrameValid_draws : (s.strobeFrameValid).draws = s.draws := rfl
@[simp] theorem strobeFrameValid_armReq : (s.strobeFrameValid).out.armReq = s.out.armReq := rfl
@[simp] theorem strobeFrameValid_armTimeout : (s.strobeFrameValid).out.armTimeout = s.out.armTimeout := rfl
@[simp] theorem strobeFrameValid_stopReq : (s.strobeFrameValid).out.stopReq = s.out.stopReq := rfl
@[simp] theorem strobeFrameValid_frameValid : (s.strobeFrameValid).out.frameValid = true := rfl
@[simp] theorem strobeFrameValid_frame : (s.strobeFrameValid).out.frame = s.out.frame := rfl
@[simp] theorem strobeFrameValid_err : (s.strobeFrameValid).out.err = s.out.err := rfl

@[simp] theorem strobeArmReq_st : (s.strobeArmReq).st = s.st := rfl
@[simp] theorem strobeArmReq_fb : (s.strobeArmReq).fb = s.fb := rfl
@[simp] theorem strobeArmReq_cs : (s.strobeArmReq).cs = s.cs := rfl
@[simp] theorem strobeArmReq_cntS1 : (s.strobeArmReq).cntS1 = s.cntS1 := rfl
@[simp] theorem strobeArmReq_cntS2 : (s.strobeArmReq).cntS2 = s.cntS2 := rfl
@[simp] theorem strobeArmReq_cfg : (s.strobeArmReq).cfg = s.cfg := rfl
@[simp] theorem strobeArmReq_inputs : (s.strobeArmReq).inputs = s.inputs := rfl
@[simp] theorem strobeArmReq_draws : (s.strobeArmReq).draws = s.draws := rfl
@[simp] theorem strobeArmReq_armReq : (s.strobeArmReq).out.armReq = true := rfl
@[simp] theorem strobeArmReq_armTimeout : (s.strobeArmReq).out.armTimeout = s.out.armTimeout := rfl
@[simp] theorem strobeArmReq_stopReq : (s.strobeArmReq).out.stopReq = s.out.stopReq := rfl
@[simp] theorem strobeArmReq_frameValid : (s.strobeArmReq).out.frameValid = s.out.frameValid := rfl
@[simp] theorem strobeArmReq_frame : (s.strobeArmReq).out.frame = s.out.frame := rfl
@[simp] theorem strobeArmReq_err : (s.strobeArmReq).out.err = s.out.err := rfl

@[simp] theorem strobeStopReq_st : (s.strobeStopReq).st = s.st := rfl
@[simp] theorem strobeStopReq_fb : (s.strobeStopReq).fb = s.fb := rfl
@[simp] theorem strobeStopReq_cs : (s.strobeStopReq).cs = s.cs := rfl
@[simp] theorem strobeStopReq_cntS1 : (s.strobeStopReq).cntS1 = s.cntS1 := rfl
@[simp] theorem strobeStopReq_cntS2 : (s.strobeStopReq).cntS2 = s.cntS2 := rfl
@[simp] theorem strobeStopReq_cfg : (s.strobeStopReq).cfg = s.cfg := rfl
@[simp] theorem strobeStopReq_inputs : (s.strobeStopReq).inputs = s.inputs := rfl
@[simp] theorem strobeStopReq_draws : (s.strobeStopReq).draws = s.draws := rfl
@[simp] theorem strobeStopReq_armReq : (s.strobeStopReq).out.armReq = s.out.armReq := rfl
@[simp] theorem strobeStopReq_armTimeout : (s.strobeStopReq).out.armTimeout = s.out.armTimeout := rfl
@[simp] theorem strobeStopReq_stopReq : (s.strobeStopReq).out.stopReq = true := rfl
@[simp] theorem strobeStopReq_frameValid : (s.strobeStopReq).out.frameValid = s.out.frameValid := rfl
@[simp] theorem strobeStopReq_frame : (s.strobeStopReq).out.frame = s.out.frame := rfl
@[simp] theorem strobeStopReq_err : (s.strobeStopReq).out.err = s.out.err := rfl

@[simp] theorem writeByte_st (idx : Nat) (data : Byte) : (s.writeByte idx data).st = s.st := rfl
@[simp] theorem writeByte_fb (idx : Nat) (data : Byte) : (s.writeByte idx data).fb = if indexInFrame idx then s.fb.write idx data else s.fb := rfl
@[simp] theorem writeByte_cs (idx : Nat) (data : Byte) : (s.writeByte idx data).cs = s.cs := rfl
@[simp] theorem writeByte_cntS1 (idx : Nat) (data : Byte) : (s.writeByte idx data).cntS1 = s.cntS1 := rfl
@[simp] theorem writeByte_cntS2 (idx : Nat) (data : Byte) : (s.writeByte idx data).cntS2 = s.cntS2 := rfl
@[simp] theorem writeByte_cfg (idx : Nat) (data : Byte) : (s.writeByte idx data).cfg = s.cfg := rfl
@[simp] theorem writeByte_inputs (idx : Nat) (data : Byte) : (s.writeByte idx data).inputs = s.inputs := rfl
@[simp] theorem writeByte_draws (idx : Nat) (data : Byte) : (s.writeByte idx data).draws = s.draws := rfl
@[simp] theorem writeByte_out (idx : Nat) (data : Byte) : (s.writeByte idx data).out = s.out := rfl

@[simp] theorem enterError_st : (s.enterError).st = .error := rfl
@[simp] theorem enterError_fb : (s.enterError).fb = s.fb := rfl
@[simp] theorem enterError_cs : (s.enterError).cs = s.cs := rfl
@[simp] theorem enterError_cntS1 : (s.enterError).cntS1 = s.cntS1 := rfl
@[simp] theorem enterError_cntS2 : (s.enterError).cntS2 = s.cntS2 := rfl
@[simp] theorem enterError_cfg : (s.enterError).cfg = s.cfg := rfl
@[simp] theorem enterError_inputs : (s.enterError).inputs = s.inputs := rfl
@[simp] theorem enterError_draws : (s.enterError).draws = s.draws := rfl
@[simp] theorem enterError_armReq : (s.enterError).out.armReq = s.out.armReq := rfl
@[simp] theorem enterError_armTimeout : (s.enterError).out.armTimeout = s.out.armTimeout := rfl
@[simp] theorem enterError_stopReq : (s.enterError).out.stopReq = s.out.stopReq := rfl
@[simp] theorem enterError_frameValid : (s.enterError).out.frameValid = s.out.frameValid := rfl
@[simp] theorem enterError_frame : (s.enterError).out.frame = s.out.frame := rfl
@[simp] theorem enterError_err : (s.enterError).out.err = s.out.err ||| 2#2 := rfl

@[simp] theorem enterReceiving_st : (s.enterReceiving).st = .receiving := rfl
@[simp] theorem enterReceiving_fb : (s.enterReceiving).fb = s.fb := rfl
@[simp] theorem enterReceiving_cs : (s.enterReceiving).cs = s.cs := rfl
@[simp] theorem enterReceiving_cntS1 : (s.enterReceiving).cntS1 = s.cntS1 := rfl
@[simp] theorem enterReceiving_cntS2 : (s.enterReceiving).cntS2 = s.cntS2 := rfl
@[simp] theorem enterReceiving_cfg : (s.enterReceiving).cfg = s.cfg := rfl
@[simp] theorem enterReceiving_inputs : (s.enterReceiving).inputs = s.inputs := rfl
@[simp] theorem enterReceiving_draws : (s.enterReceiving).draws = s.draws := rfl
@[simp] theorem enterReceiving_out : (s.enterReceiving).out = s.out := rfl

@[simp] theorem stop_st : (s.stop).st = .stopping := rfl
@[simp] theorem stop_fb : (s.stop).fb = s.fb := rfl
@[simp] theorem stop_cs : (s.stop).cs = s.cs := rfl
@[simp] theorem stop_cntS1 : (s.stop).cntS1 = s.cntS1 := rfl
@[simp] theorem stop_cntS2 : (s.stop).cntS2 = s.cntS2 := rfl
@[simp] theorem stop_cfg : (s.stop).cfg = s.cfg := rfl
@[simp] theorem stop_inputs : (s.stop).inputs = s.inputs := rfl
@[simp] theorem stop_draws : (s.stop).draws = s.draws := rfl
@[simp] theorem stop_armReq : (s.stop).out.armReq = s.out.armReq := rfl
@[simp] theorem stop_armTimeout : (s.stop).out.armTimeout = s.out.armTimeout := rfl
@[simp] theorem stop_stopReq : (s.stop).out.stopReq = true := rfl
@[simp] theorem stop_frameValid : (s.stop).out.frameValid = s.out.frameValid := rfl
@[simp] theorem stop_frame : (s.stop).out.frame = s.out.frame := rfl
@[simp] theorem stop_err : (s.stop).out.err = s.out.err := rfl

@[simp] theorem decodeFrame_st : (s.decodeFrame).st = s.st := rfl
@[simp] theorem decodeFrame_fb : (s.decodeFrame).fb = s.fb := rfl
@[simp] theorem decodeFrame_cs : (s.decodeFrame).cs = controlOf (extractFields s.fb) s.debounceS1.1 s.debounceS2.1 := rfl
@[simp] theorem decodeFrame_cntS1 : (s.decodeFrame).cntS1 = s.debounceS1.2 := rfl
@[simp] theorem decodeFrame_cntS2 : (s.decodeFrame).cntS2 = s.debounceS2.2 := rfl
@[simp] theorem decodeFrame_cfg : (s.decodeFrame).cfg = s.cfg := rfl
@[simp] theorem decodeFrame_inputs : (s.decodeFrame).inputs = s.inputs := rfl
@[simp] theorem decodeFrame_draws : (s.decodeFrame).draws = s.draws := rfl
@[simp] theorem decodeFrame_out : (s.decodeFrame).out = s.out := rfl

@[simp] theorem extractFields_ch0 (f : Memory) : (extractFields f).ch0 = channel f 0 := rfl
@[simp] theorem extractFields_ch1 (f : Memory) : (extractFields f).ch1 = channel f 1 := rfl
@[simp] theorem extractFields_ch2 (f : Memory) : (extractFields f).ch2 = channel f 2 := rfl
@[simp] theorem extractFields_ch3 (f : Memory) : (extractFields f).ch3 = channel f 3 := rfl
@[simp] theorem extractFields_s1 (f : Memory) : (extractFields f).s1 = s1Raw f := rfl
@[simp] theorem extractFields_s2 (f : Memory) : (extractFields f).s2 = s2Raw f := rfl
@[simp] theorem extractFields_vx (f : Memory) : (extractFields f).vx = velocity f 6 := rfl
@[simp] theorem extractFields_vy (f : Memory) : (extractFields f).vy = velocity f 8 := rfl
@[simp] theorem extractFields_vz (f : Memory) : (extractFields f).vz = velocity f 10 := rfl
@[simp] theorem extractFields_btn0 (f : Memory) : (extractFields f).btn0 = button f 12 := rfl
@[simp] theorem extractFields_btn1 (f : Memory) : (extractFields f).btn1 = button f 13 := rfl
@[simp] theorem extractFields_keys (f : Memory) : (extractFields f).keys = keysOf f := rfl
@[simp] theorem extractFields_wheel (f : Memory) : (extractFields f).wheel = wheelOf f := rfl

@[simp] theorem controlOf_ch0 (x : FrameFields) (a b : BitVec 2) : (controlOf x a b).ch0 = x.ch0 := rfl
@[simp] theorem controlOf_ch1 (x : FrameFields) (a b : BitVec 2) : (controlOf x a b).ch1 = x.ch1 := rfl
@[simp] theorem controlOf_ch2 (x : FrameFields) (a b : BitVec 2) : (controlOf x a b).ch2 = x.ch2 := rfl
@[simp] theorem controlOf_ch3 (x : FrameFields) (a b : BitVec 2) : (controlOf x a b).ch3 = x.ch3 := rfl
@[simp] theorem controlOf_s1 (x : FrameFields) (a b : BitVec 2) : (controlOf x a b).s1 = a := rfl
@[simp] theorem controlOf_s2 (x : FrameFields) (a b : BitVec 2) : (controlOf x a b).s2 = b := rfl
@[simp] theorem controlOf_vx (x : FrameFields) (a b : BitVec 2) : (controlOf x a b).vx = x.vx := rfl
@[simp] theorem controlOf_vy (x : FrameFields) (a b : BitVec 2) : (controlOf x a b).vy = x.vy := rfl
@[simp] theorem controlOf_vz (x : FrameFields) (a b : BitVec 2) : (controlOf x a b).vz = x.vz := rfl
@[simp] theorem controlOf_btn0 (x : FrameFields) (a b : BitVec 2) : (controlOf x a b).btn0 = x.btn0 := rfl
@[simp] theorem controlOf_btn1 (x : FrameFields) (a b : BitVec 2) : (controlOf x a b).btn1 = x.btn1 := rfl
@[simp] theorem controlOf_keys (x : FrameFields) (a b : BitVec 2) : (controlOf x a b).keys = x.keys := rfl
@[simp] theorem controlOf_wheel (x : FrameFields) (a b : BitVec 2) : (controlOf x a b).wheel = x.wheel := rfl

@[simp] theorem skip_st : (s.skip).st = s.st := rfl
@[simp] theorem skip_fb : (s.skip).fb = s.fb := rfl
@[simp] theorem skip_cs : (s.skip).cs = s.cs := rfl
@[simp] theorem skip_cntS1 : (s.skip).cntS1 = s.cntS1 := rfl
@[simp] theorem skip_cntS2 : (s.skip).cntS2 = s.cntS2 := rfl
@[simp] theorem skip_cfg : (s.skip).cfg = s.cfg := rfl
@[simp] theorem skip_inputs : (s.skip).inputs = s.inputs := rfl
@[simp] theorem skip_draws : (s.skip).draws = s.draws := rfl
@[simp] theorem skip_out : (s.skip).out = s.out := rfl

/-- `advance` writes no field but the queue and the draw counter. -/
theorem advance_eq : s.advance = { s with inputs := s.inputs.tail, draws := if s.inputs = [] then s.draws + 1 else s.draws } := by
  unfold State.advance
  cases h : s.inputs <;> cases s <;> simp_all

@[simp] theorem advance_st : s.advance.st = s.st := by rw [advance_eq]
@[simp] theorem advance_fb : s.advance.fb = s.fb := by rw [advance_eq]
@[simp] theorem advance_cs : s.advance.cs = s.cs := by rw [advance_eq]
@[simp] theorem advance_cntS1 : s.advance.cntS1 = s.cntS1 := by rw [advance_eq]
@[simp] theorem advance_cntS2 : s.advance.cntS2 = s.cntS2 := by rw [advance_eq]
@[simp] theorem advance_cfg : s.advance.cfg = s.cfg := by rw [advance_eq]
@[simp] theorem advance_out : s.advance.out = s.out := by rw [advance_eq]
@[simp] theorem advance_inputs : s.advance.inputs = s.inputs.tail := by rw [advance_eq]

@[simp] theorem resetEdge_st : s.resetEdge.st = .idle := by simp [State.resetEdge, State.reset]
@[simp] theorem resetEdge_fb : s.resetEdge.fb = [] := by simp [State.resetEdge, State.reset]
@[simp] theorem resetEdge_cs : s.resetEdge.cs = ControlState.reset := by simp [State.resetEdge, State.reset]
@[simp] theorem resetEdge_cntS1 : s.resetEdge.cntS1 = 0 := by simp [State.resetEdge, State.reset]
@[simp] theorem resetEdge_cntS2 : s.resetEdge.cntS2 = 0 := by simp [State.resetEdge, State.reset]
@[simp] theorem resetEdge_cfg : s.resetEdge.cfg = s.cfg := by simp [State.resetEdge, State.reset]
@[simp] theorem resetEdge_out : s.resetEdge.out = StepOut.reset s.cfg.idleTimeout := by simp [State.resetEdge, State.reset]
@[simp] theorem resetEdge_inputs : s.resetEdge.inputs = s.inputs.tail := by simp [State.resetEdge]

/-- The sample at the ports depends on the queue and the draw counter alone. -/
theorem nextInput_congr {s t : State} (hi : t.inputs = s.inputs) (hd : t.draws = s.draws) : t.nextInput = s.nextInput := by
  simp [State.nextInput, hi, hd]

theorem armOk_congr {s t : State} (hi : t.inputs = s.inputs) (hd : t.draws = s.draws) : t.armOk = s.armOk := by
  simp [State.armOk, nextInput_congr hi hd]

@[simp] theorem beginStep_armOk : s.beginStep.armOk = s.armOk := armOk_congr rfl rfl
@[simp] theorem raiseTruncatedFrame_armOk : s.raiseTruncatedFrame.armOk = s.armOk := armOk_congr rfl rfl
@[simp] theorem strobeFrameValid_armOk : s.strobeFrameValid.armOk = s.armOk := armOk_congr rfl rfl
@[simp] theorem decodeFrame_armOk : s.decodeFrame.armOk = s.armOk := armOk_congr rfl rfl

theorem nextInput_cons {s : State} {inp : Input} {rest : List Input} (h : s.inputs = inp :: rest) : s.nextInput = inp := by
  simp [State.nextInput, h]

end Sys2Proof.Machine
end

