-- ==== Sys2Proof/Laws/Ops.lean ====
section
/-! SUPPORT. What each shared operation of the machine can do, said once: cite these instead of unfolding the operation. -/

namespace Sys2Proof.Machine

/-- `ARM()` in one equation: the arm result decides `st` and `err[1]`, and nothing else changes but `arm_req`. -/
theorem arm_eq (s : State) :
    s.arm =
      { s with
        st := if s.armOk then .receiving else .error
        out := { s.out with armReq := true, err := if s.armOk then s.out.err else s.out.err ||| 2#2 } } := by
  unfold State.arm
  by_cases h : s.armOk = true
  · rw [if_pos h, if_pos h, if_pos h]; rfl
  · rw [if_neg h, if_neg h, if_neg h]; rfl

/-- A successful `ARM()`. -/
theorem arm_ok {s : State} (h : s.armOk = true) : s.arm = s.strobeArmReq.enterReceiving := by
  simp [State.arm, h]

/-- A failed `ARM()`. -/
theorem arm_fail {s : State} (h : s.armOk = false) : s.arm = s.strobeArmReq.enterError := by
  simp [State.arm, h]

/-- The re-arm of a burst end arms under `DOUBLE_BUFFER`. -/
theorem rearm_doubleBuffer {s : State} (h : s.cfg.policy = .doubleBuffer) : s.rearm = s.arm := by
  simp [State.rearm, h]

/-- The re-arm of a burst end stops under `SINGLE_SHOT`. -/
theorem rearm_singleShot {s : State} (h : s.cfg.policy = .singleShot) : s.rearm = s.stop := by
  simp [State.rearm, h]

/-- The re-supply arms under `DOUBLE_BUFFER`. -/
theorem resupply_doubleBuffer {s : State} (h : s.cfg.policy = .doubleBuffer) : s.resupply = s.arm := by
  simp [State.resupply, h]

/-- The re-supply does nothing under `SINGLE_SHOT`. -/
theorem resupply_singleShot {s : State} (h : s.cfg.policy = .singleShot) : s.resupply = s := by
  simp [State.resupply, h]

/-- Where the burst end finds a valid burst it accepts and decodes the frame. -/
theorem endBurst_valid (s : State) {offset length : Nat} (h : offset = 0 ∧ length = 18) :
    s.endBurst offset length = s.strobeFrameValid.decodeFrame := by
  obtain ⟨rfl, rfl⟩ := h
  rfl

/-- Where the burst end finds no valid burst it raises `TruncatedFrame` and decodes nothing. -/
theorem endBurst_invalid (s : State) {offset length : Nat} (h : ¬(offset = 0 ∧ length = 18)) :
    s.endBurst offset length = s.raiseTruncatedFrame := by
  simp [State.endBurst, validBurst, frameLen, h]

/-- The dispatch in `RECEIVING`. -/
theorem perState_receiving {s : State} (r p : State → State) (h : s.st = .receiving) : s.perState r p = r s.beginStep := by
  simp [State.perState, h]

/-- The dispatch in `STOPPING`. -/
theorem perState_stopping {s : State} (r p : State → State) (h : s.st = .stopping) : s.perState r p = p s.beginStep := by
  simp [State.perState, h]

/-- The dispatch where the buffer is not lent: every step arms. -/
theorem perState_unlent {s : State} (r p : State → State) (h : s.st.lent = false) : s.perState r p = s.beginStep.arm := by
  unfold State.perState
  cases hs : s.st <;> simp_all [AsmState.lent]

/-- All the dispatch can do. -/
theorem perState_cases (s : State) (r p : State → State) :
    (s.st = .receiving ∧ s.perState r p = r s.beginStep) ∨ (s.st = .stopping ∧ s.perState r p = p s.beginStep)
      ∨ (s.st.lent = false ∧ s.perState r p = s.beginStep.arm) := by
  cases hs : s.st
  case receiving => exact .inl ⟨rfl, perState_receiving r p hs⟩
  case stopping => exact .inr (.inl ⟨rfl, perState_stopping r p hs⟩)
  all_goals exact .inr (.inr ⟨rfl, perState_unlent r p (by simp [hs, AsmState.lent])⟩)

/-- A filter step below the threshold or on a match never stores a counter at the threshold. -/
theorem debounce_cnt_lt {n : Nat} (hn : 0 < n) (acc : BitVec 2) (cnt : BitVec 4) (cand : BitVec 2) :
    (debounce n acc cnt cand).2.toNat < n := by
  unfold debounce
  split
  · simpa using hn
  · split
    · simpa using hn
    · have := Nat.mod_le (cnt.toNat + 1) 16
      simp only [BitVec.toNat_ofNat]
      omega

/-- `DEBOUNCE_N` is at least 1. -/
theorem debounceN_pos (c : Config) : 0 < c.debounceN := Nat.succ_pos _

/-- `DEBOUNCE_N` is at most 16. -/
theorem debounceN_le (c : Config) : c.debounceN ≤ 16 := c.debounceLess1.isLt

end Sys2Proof.Machine
end

