-- ==== Sys2Proof/Laws/Exec.lean ====
section
/-! SUPPORT. What a transaction can do, said once: the cases of the transition table (R131), each with the state it leaves,
the decode of an accepted frame register by register,
and the duty T2 as a fact about the bytes written. -/

namespace Sys2Proof.Machine

/-- The cases of R131 for a transaction `i` in a state `s`, each with its next state. -/
inductive ExecCase (i : Instr) (s : State) : State → Prop where
  | unlent (hs : s.st.lent = false) : ExecCase i s s.beginStep.arm
  | quiet (hs : s.st.lent = true) (hi : i = .nop ∨ i = .bufferReleased ∨ i = .rsv7) : ExecCase i s s.beginStep
  | byteWrite (hs : s.st.lent = true) (idx : Nat) (data : Byte) (hi : i = .byteWrite idx data) :
      ExecCase i s (s.beginStep.writeByte idx data)
  | validBurst (hs : s.st = .receiving) (hi : i = .bytesReady 0 18) :
      ExecCase i s s.beginStep.strobeFrameValid.decodeFrame.rearm
  | invalidBurst (hs : s.st = .receiving) (offset length : Nat) (hi : i = .bytesReady offset length)
      (hv : ¬(offset = 0 ∧ length = 18)) : ExecCase i s s.beginStep.raiseTruncatedFrame.rearm
  | resupply (hs : s.st = .receiving) (hi : i = .bufferNeeded) : ExecCase i s s.beginStep.resupply
  | unsolicitedStop (hs : s.st = .receiving) (hi : isAck i = true) : ExecCase i s s.beginStep.raiseTruncatedFrame.arm
  | acknowledgment (hs : s.st = .stopping) (hi : isAck i = true) : ExecCase i s s.beginStep.arm
  | ignoredWhileStopping (hs : s.st = .stopping) (hi : i = .bufferNeeded ∨ isBurstEnd i = true) : ExecCase i s s.beginStep

/-- Every next state of a transaction is one of the cases of R131. -/
theorem exec_cases {i : Instr} {s t : State} (h : exec i s = .next t) : ExecCase i s t := by
  have dispatch {r p : State → State} (ht : s.perState r p = t) (hr : s.st = .receiving → ExecCase i s (r s.beginStep))
      (hp : s.st = .stopping → ExecCase i s (p s.beginStep)) : ExecCase i s t := by
    obtain ⟨hs, he⟩ | ⟨hs, he⟩ | ⟨hs, he⟩ := perState_cases s r p
    · rw [← ht, he]; exact hr hs
    · rw [← ht, he]; exact hp hs
    · rw [← ht, he]; exact .unlent hs
  have lentR (hs : s.st = .receiving) : s.st.lent = true := by rw [hs]; rfl
  have lentS (hs : s.st = .stopping) : s.st.lent = true := by rw [hs]; rfl
  cases i with
  | nop =>
    exact dispatch (Host.Outcome.next.inj h) (fun hs => .quiet (lentR hs) (.inl rfl))
      (fun hs => .quiet (lentS hs) (.inl rfl))
  | byteWrite idx data =>
    exact dispatch (Host.Outcome.next.inj h) (fun hs => .byteWrite (lentR hs) idx data rfl)
      (fun hs => .byteWrite (lentS hs) idx data rfl)
  | bytesReady offset length =>
    refine dispatch (Host.Outcome.next.inj h) (fun hs => ?_) (fun hs => .ignoredWhileStopping hs (.inr rfl))
    by_cases hv : offset = 0 ∧ length = 18
    · rw [endBurst_valid _ hv]
      exact .validBurst hs (by rw [hv.1, hv.2])
    · rw [endBurst_invalid _ hv]
      exact .invalidBurst hs offset length rfl hv
  | bufferNeeded =>
    exact dispatch (Host.Outcome.next.inj h) (.resupply · rfl) (.ignoredWhileStopping · (.inl rfl))
  | bufferReleased =>
    exact dispatch (Host.Outcome.next.inj h) (fun hs => .quiet (lentR hs) (.inr (.inl rfl)))
      (fun hs => .quiet (lentS hs) (.inr (.inl rfl)))
  | receptionStopped => exact dispatch (Host.Outcome.next.inj h) (.unsolicitedStop · rfl) (.acknowledgment · rfl)
  | receptionDisabled => exact dispatch (Host.Outcome.next.inj h) (.unsolicitedStop · rfl) (.acknowledgment · rfl)
  | rsv7 =>
    exact dispatch (Host.Outcome.next.inj h) (fun hs => .quiet (lentR hs) (.inr (.inr rfl)))
      (fun hs => .quiet (lentS hs) (.inr (.inr rfl)))

/-- `DECODE` writes every ControlState register and both counters as R160 says, from the frame in the buffer. -/
theorem decodeFrame_decodedFrom (s : State) : DecodedFrom s s.fb s.decodeFrame :=
  ⟨rfl, rfl, rfl, rfl, rfl, rfl, rfl, rfl, rfl, rfl, rfl, rfl, rfl⟩

/-- The registers and counters of R160 in one equation each: what a frame decodes to is unique. -/
theorem decodedFrom_iff {s t : State} {f : Memory} :
    DecodedFrom s f t ↔
      t.cs = controlOf (extractFields f) (debounce s.cfg.debounceN s.cs.s1 s.cntS1 (s1Raw f)).1
          (debounce s.cfg.debounceN s.cs.s2 s.cntS2 (s2Raw f)).1
        ∧ t.cntS1 = (debounce s.cfg.debounceN s.cs.s1 s.cntS1 (s1Raw f)).2
        ∧ t.cntS2 = (debounce s.cfg.debounceN s.cs.s2 s.cntS2 (s2Raw f)).2 := by
  obtain ⟨st, fb, ⟨⟩, _⟩ := t
  simp only [DecodedFrom, controlOf, ControlState.mk.injEq, Prod.ext_iff]
  exact ⟨fun h => by simp [h], fun h => by simp [h]⟩

/-- An index that some transactions write holds the same byte after them, whatever it held before. -/
theorem lastWritten_of_written {l : List Instr} {i : Nat} (h : i ∈ writtenIndices l) (v v' : Byte) :
    lastWritten i v l = lastWritten i v' l := by
  induction l generalizing v v' with
  | nil => simp [writtenIndices] at h
  | cons x l ih =>
    cases x with
    | byteWrite idx data =>
      by_cases hx : idx = i ∧ idx < frameLen
      · simp [lastWritten, hx.1, hx.1 ▸ hx.2]
      · have : i ∈ writtenIndices l := by
          by_cases hl : idx < frameLen
          · simp only [writtenIndices, hl, if_true, List.mem_cons] at h
            exact h.resolve_left (fun he => hx ⟨he.symm, hl⟩)
          · simpa [writtenIndices, hl] using h
        simpa [lastWritten, hx] using ih this v v'
    | _ => exact ih h v v'

/-- Duty T2 for a burst of 18 bytes from offset 0 has every byte of the buffer written. -/
theorem dutyT2_written {l : List Instr} (h : dutyT2 l 0 18) {i : Nat} (hi : i < 18) : i ∈ writtenIndices l :=
  h.subset (by simp [frameLen, hi])

end Sys2Proof.Machine
end

