-- ==== Sys2Proof/Laws/PerInstr.lean ====
section
/-! SUPPORT. Statements made for every transaction, one lemma per constructor: every encoded word lies in the opcode-table
row of its transaction. -/

namespace Sys2Proof

/-- The top three bits of a word built from its fields are its kind. -/
theorem wordOf_and_rowMask (k : BitVec 3) (a : Nat) (b : Byte) : wordOf k a b &&& rowMask = k ++ (0 : BitVec 13) := by
  unfold wordOf rowMask
  have h : (0xE000 : Word) = (7 : BitVec 3) ++ (0 : BitVec 13) := by decide
  rw [h]
  rw [BitVec.and_append]
  have h7 : k &&& 7#3 = k := BitVec.and_allOnes
  congr 1
  · exact BitVec.and_zero

end Sys2Proof

namespace Sys2Proof.Laws

/-- The encoded word of a transaction matches its row of R81 under the mask 0xE000. -/
def RowMatch.Statement (i : Instr) : Prop := encode i &&& rowMask = rowMatch i

theorem RowMatch.nop : RowMatch.Statement .nop := by
  simp only [RowMatch.Statement, encode, wordOf_and_rowMask, rowMatch]; decide

theorem RowMatch.byteWrite (idx : Nat) (data : Byte) : RowMatch.Statement (.byteWrite idx data) := by
  simp only [RowMatch.Statement, encode, wordOf_and_rowMask, rowMatch]; decide

theorem RowMatch.bytesReady (offset length : Nat) : RowMatch.Statement (.bytesReady offset length) := by
  simp only [RowMatch.Statement, encode, wordOf_and_rowMask, rowMatch]; decide

theorem RowMatch.bufferNeeded : RowMatch.Statement .bufferNeeded := by
  simp only [RowMatch.Statement, encode, wordOf_and_rowMask, rowMatch]; decide

theorem RowMatch.bufferReleased : RowMatch.Statement .bufferReleased := by
  simp only [RowMatch.Statement, encode, wordOf_and_rowMask, rowMatch]; decide

theorem RowMatch.receptionStopped : RowMatch.Statement .receptionStopped := by
  simp only [RowMatch.Statement, encode, wordOf_and_rowMask, rowMatch]; decide

theorem RowMatch.receptionDisabled : RowMatch.Statement .receptionDisabled := by
  simp only [RowMatch.Statement, encode, wordOf_and_rowMask, rowMatch]; decide

theorem RowMatch.rsv7 : RowMatch.Statement .rsv7 := by
  simp only [RowMatch.Statement, encode, wordOf_and_rowMask, rowMatch]; decide

end Sys2Proof.Laws
end

