-- ==== Sys2Proof/Tests/Slice0.lean ====
section
/-! SUPPORT. Small checks: ill-formed terms, written-out words, one step of each transaction, the decoder and the filter on
vectors of 95_test_vectors.md, and a witness for the hypotheses of each statement that has some. -/

namespace Sys2Proof.Tests

open Sys2Proof Sys2Proof.Machine

/-! ### Helpers -/

/-- The bytes as a canonical buffer, from an index on. -/
def bufferFrom : Nat → List Byte → Memory
  | _, [] => []
  | i, b :: bs => (bufferFrom (i + 1) bs).write i b

/-- A state in `st` under a policy, `DEBOUNCE_N` = 5, the buffer FB[i] = 0x11 * i of section 3 of the vectors, registers at
reset, and one queued sample. -/
def at_ (p : RearmPolicy) (st : AsmState) (inputs : List Input) : State where
  st := st
  fb := bufferFrom 0 [0x00, 0x11, 0x22, 0x33, 0x44, 0x55, 0x66, 0x77, 0x88, 0x99, 0xAA, 0xBB, 0xCC, 0xDD, 0xEE, 0xFF, 0x10, 0x21]
  cs := ControlState.reset
  cntS1 := 0
  cntS2 := 0
  cfg := Config.ofPolicy p 7
  inputs := inputs
  draws := 0
  out := StepOut.reset 7

/-- One sample with the given word and arm result. -/
def sample (w : Word) (ok : Bool) : Input := ⟨false, w, ok⟩

/-- The next state of an outcome, else the given state. -/
def nextOr (s : State) : Host.Outcome State Fault Refusal → State
  | .next t => t
  | .fault _ => s
  | .refused _ => s

/-- The strobes `A S V E` of the vectors and the state after, for one transaction. -/
def shown (s : State) (i : Instr) : Bool × Bool × Bool × BitVec 2 × AsmState :=
  let t := nextOr s (exec i s)
  (t.out.armReq, t.out.stopReq, t.out.frameValid, t.out.err, t.st)

/-- A state of `DOUBLE_BUFFER` or `SINGLE_SHOT` whose arm result is `/ok` or `/fail`. -/
def double (st : AsmState) (ok : Bool) : State := at_ .doubleBuffer st [sample 0 ok]

/-- As `double`, under `SINGLE_SHOT`. -/
def single (st : AsmState) (ok : Bool) : State := at_ .singleShot st [sample 0 ok]

/-! ### Well-formedness: each check refuses an ill-formed term -/

theorem test_wf_byte_index : (Instr.byteWrite 32 0x00).wellFormed = false := by decide
theorem test_wf_ready_offset : (Instr.bytesReady 32 18).wellFormed = false := by decide
theorem test_wf_ready_length : (Instr.bytesReady 0 256).wellFormed = false := by decide
theorem test_wf_largest : (Instr.bytesReady 31 255).wellFormed = true ∧ (Instr.byteWrite 31 0xFF).wellFormed = true := by decide
theorem test_wf_word : (AsmLine.word 65536).wellFormed = false := by decide
theorem test_wf_burst_empty : (AsmLine.burst []).wellFormed = false := by decide
theorem test_wf_burst_long : (AsmLine.burst (List.replicate 33 0)).wellFormed = false := by decide
theorem test_wf_burst_byte : (AsmLine.burst [256]).wellFormed = false := by decide
theorem test_wf_frame_short : (AsmLine.frame (List.replicate 17 0)).wellFormed = false := by decide
theorem test_wf_frame_byte : (AsmLine.frame (256 :: List.replicate 17 0)).wellFormed = false := by decide
theorem test_wf_trunc : (AsmLine.trunc 18).wellFormed = false ∧ (AsmLine.trunc 17).wellFormed = true := by decide

/-! ### Decoding: words written out from R80 and R81 (table V-ENC) -/

theorem test_decode_nop : decode 0b000_00000_00000000 = .nop := by decide
theorem test_decode_byteWrite : decode 0b001_00011_10100101 = .byteWrite 3 0xA5 := by decide
theorem test_decode_bytesReady : decode 0b010_00001_00010001 = .bytesReady 1 17 := by decide
theorem test_decode_bufferNeeded : decode 0b011_01010_10111100 = .bufferNeeded := by decide
theorem test_decode_bufferReleased : decode 0b100_00000_00000000 = .bufferReleased := by decide
theorem test_decode_receptionStopped : decode 0b101_00000_00000000 = .receptionStopped := by decide
theorem test_decode_receptionDisabled : decode 0b110_00000_00000000 = .receptionDisabled := by decide
theorem test_decode_rsv7 : decode 0b111_11111_11111111 = .rsv7 := by decide
theorem test_encode_words :
    encode (.byteWrite 17 0x04) = 0x3104 ∧ encode (.bytesReady 0 18) = 0x4012 ∧ encode .rsv7 = 0xE000 := by decide
theorem test_decodeTableWord : decodeTableWord 16 0x4012 = some (.bytesReady 0 18) ∧ decodeTableWord 24 0 = none := by decide

/-! ### One step of each transaction (tables V-AS and V-MEM) -/

theorem test_nop : shown (double .receiving false) .nop = (false, false, false, 0, .receiving) := by decide
theorem test_nop_idle : shown (single .idle false) .nop = (true, false, false, 2, .error) := by decide
theorem test_byteWrite : (nextOr (double .receiving true) (exec (.byteWrite 3 0xA5) (double .receiving true))).fb.read 3 = 0xA5 := by
  decide
theorem test_byteWrite_error :
    (nextOr (double .error true) (exec (.byteWrite 0 0x12) (double .error true))).fb = (double .error true).fb := by decide
theorem test_bytesReady_valid_arm_fails :
    shown (double .receiving false) (.bytesReady 0 18) = (true, false, true, 2, .error) := by decide
theorem test_bytesReady_oversized :
    shown (single .receiving false) (.bytesReady 0 19) = (false, true, false, 1, .stopping) := by decide
theorem test_bufferNeeded : shown (double .receiving true) .bufferNeeded = (true, false, false, 0, .receiving) := by decide
theorem test_bufferNeeded_single :
    shown (single .receiving true) .bufferNeeded = (false, false, false, 0, .receiving) := by decide
theorem test_bufferReleased : shown (single .stopping true) .bufferReleased = (false, false, false, 0, .stopping) := by decide
theorem test_bufferReleased_error : shown (double .error true) .bufferReleased = (true, false, false, 0, .receiving) := by decide
theorem test_receptionStopped : shown (single .receiving false) .receptionStopped = (true, false, false, 3, .error) := by decide
theorem test_receptionStopped_ack :
    shown (single .stopping true) .receptionStopped = (true, false, false, 0, .receiving) := by decide
theorem test_receptionDisabled : shown (double .receiving true) .receptionDisabled = (true, false, false, 1, .receiving) := by
  decide
theorem test_receptionDisabled_ack_fails :
    shown (single .stopping false) .receptionDisabled = (true, false, false, 2, .error) := by decide
theorem test_rsv7 : shown (double .receiving true) .rsv7 = (false, false, false, 0, .receiving) := by decide
theorem test_rsv7_idle : shown (double .idle true) .rsv7 = (true, false, false, 0, .receiving) := by decide

/-- V-MEM-4: a late byte lands while stopping. -/
theorem test_byteWrite_stopping :
    (nextOr (single .stopping true) (exec (.byteWrite 2 0x5A) (single .stopping true))).fb.read 2 = 0x5A := by decide

/-- Writing 0x00 removes the entry: the canonical form. -/
theorem test_write_zero_canonical : Memory.write (bufferFrom 0 [1, 2, 3]) 1 0 = [(0, 1), (2, 3)] := by decide

/-- V-RST-3: the first step after reset does not validate. -/
theorem test_reset_ready : (nextOr State.reset (step (State.reset.withFetchWord 16 0x4012))).st = .receiving := by decide

/-- V-RST-1: a reset edge. -/
theorem test_reset_edge :
    (nextOr State.reset (step (at_ .singleShot .stopping [⟨true, 0x4012, true⟩]))).fb = [] := by decide

/-! ### The frame decoder (tables V-DEC and V-RT) -/

/-- Frame F-A of V-DEC-4. -/
def frameA : Memory :=
  bufferFrom 0 [0x94, 0x66, 0x0B, 0x00, 0x01, 0x98, 0x64, 0x00, 0x9C, 0xFF, 0x00, 0x00, 0x00, 0x01, 0x01, 0x00, 0x00, 0x04]

theorem test_frameA_channels :
    [0, 1, 2, 3].map (fun n => (channel frameA n).toInt) = [660, -660, 0, 0] ∧ (wheelOf frameA).toInt = 0 := by decide
theorem test_frameA_rest :
    (s1Raw frameA, s2Raw frameA) = (2, 1)
      ∧ [6, 8, 10].map (fun o => (velocity frameA o).toInt) = [100, -100, 0]
      ∧ (button frameA 12, button frameA 13, keysOf frameA) = (false, true, 0x0001) := by decide

/-- Registers at reset, `DEBOUNCE_N` at its default. -/
def readyBase : State := at_ .doubleBuffer .receiving []

/-- The default of R11. -/
theorem test_debounceN_default : (Config.ofPolicy .singleShot 0).debounceN = 5 := rfl

/-- Frame F-B of V-DEC-5. -/
def frameB : Memory :=
  bufferFrom 0 [0x55, 0x55, 0xD5, 0xFF, 0x01, 0x20, 0x34, 0x12, 0xFE, 0xFF, 0x01, 0x00, 0x01, 0x01, 0xC3, 0xA5, 0x00, 0x00]

theorem test_frameB_channels :
    [0, 1, 2, 3].map (fun n => (channel frameB n).toInt) = [341, -342, 1023, -1024] ∧ (wheelOf frameB).toInt = -1024 := by
  decide
theorem test_frameB_rest :
    (s1Raw frameB, s2Raw frameB) = (0, 2)
      ∧ [6, 8, 10].map (fun o => (velocity frameB o).toInt) = [4660, -2, 1]
      ∧ (button frameB 12, button frameB 13, keysOf frameB) = (true, true, 0xA5C3) := by decide

/-- F-B and `DEBOUNCE_N` = 5 in the registers: each shows its own field, the differing switch candidate only counts. -/
theorem test_frameB_registers :
    { readyBase with fb := frameB }.decodeFrame.cs
        = ⟨341, -342, 1023, -1024, 0, 0, 4660, -2, 1, true, true, 0xA5C3, -1024⟩
      ∧ { readyBase with fb := frameB }.decodeFrame.cntS2 = 1 := by decide

/-- V-RT-12: `ch2` = -1 with every other bit of the window 1. -/
theorem test_ch2_isolated : (channel (bufferFrom 0 [0xFF, 0xFF, 0xFF, 0xFF, 0xFE, 0xFF]) 2).toInt = -1 := by decide

/-- The `frame` output carries the bytes in place (R34). -/
theorem test_frameBits_byte : frameByte frameB.frameBits 6 = 0x34 ∧ frameByte frameB.frameBits 15 = 0xA5 := by decide

/-- The packing of F-A's fields is F-A, whose unused bits are 0. -/
theorem test_pack_frameA : packFrame (extractFields frameA) 0 0 0 = frameA.frameBits := by decide

/-! ### The debounce filter (tables V-DB1 and V-DB) -/

theorem test_debounce_accepts : debounce 5 0 4 2 = (2, 0) ∧ debounce 16 2 15 1 = (1, 0) := by decide
theorem test_debounce_counts : debounce 5 0 3 2 = (0, 4) ∧ debounce 16 2 14 1 = (2, 15) ∧ debounce 5 0 3 0 = (0, 0) := by decide

/-- V-DB-7: the fifth differing frame sets its own candidate. -/
theorem test_debounce_distinguishing : debounceRun 5 (0, 0) [1, 2, 1, 2, 3] = (3, 0) := by decide

/-! ### The textual syntax (R90, R91) -/

theorem test_asm_byte : assembleLine "BYTE 3, 0xA5 ; a byte".toList = some [⟨false, 0x23A5, true⟩] := by decide
theorem test_asm_ready : assembleLine "READY 0,18/fail".toList = some [⟨false, 0x4012, false⟩] := by decide
theorem test_asm_trunc :
    assembleLine "TRUNC 3 /fail".toList
      = some [⟨false, 0x2000, true⟩, ⟨false, 0x2100, true⟩, ⟨false, 0x2200, true⟩, ⟨false, 0x4003, false⟩] := by decide
theorem test_asm_range : assembleLine "BYTE 32, 0".toList = none ∧ assembleLine "BYTE 0, 256".toList = none := by decide
theorem test_asm_program :
    assemble ["; comment".toList, "NOP".toList, "BURST 0xAB".toList]
      = some [⟨false, 0x0000, true⟩, ⟨false, 0x20AB, true⟩, ⟨false, 0x4001, true⟩] := by decide

/-- The canonical words meet duty T1 (R211). -/
theorem test_dutyT1 : dutyT1 (sample 0x23A5 true) := by unfold dutyT1; decide

/-! ### Witnesses: concrete data that meet the hypotheses of the statements -/

theorem witness_DecodeOfEncodeIsIdentity : (Instr.byteWrite 31 0xFF).wellFormed = true := by decide

theorem witness_OperandsAreTheWordsFields :
    (0x3FFF#16).toNat / 8192 = 1 ∧ (0x5FFF#16).toNat / 8192 = 2 := by decide

theorem witness_IgnoredBitsHaveNoEffect :
    (0x6000#16).toNat / 8192 = (0x7FFF#16).toNat / 8192 ∧ (0x6000#16).toNat / 8192 ≠ 1 ∧ (0x6000#16).toNat / 8192 ≠ 2 := by
  decide

/-- A state of `DOUBLE_BUFFER` in `RECEIVING` with a valid burst end queued. -/
def readyState : State := at_ .doubleBuffer .receiving [sample 0x4012 true]

/-- Its next state. -/
def readyNext : State := nextOr readyState (step readyState)

/-- The next state of `readyState` by the transaction alone. -/
def readyExec : State := nextOr readyState (exec (.bytesReady 0 18) readyState)

/-- A state with nothing queued. -/
def emptyState : State := at_ .doubleBuffer .receiving []

theorem witness_StepRunsTheDecodedTransaction :
    (readyState.inputs = sample 0x4012 true :: [] ∧ (sample 0x4012 true).rst = false
        ∧ exec (decode (sample 0x4012 true).txn) readyState = .next readyExec)
      ∧ emptyState.inputs = [] ∧ exec .nop emptyState = .next (nextOr emptyState (exec .nop emptyState)) :=
  ⟨⟨rfl, rfl, rfl⟩, rfl, rfl⟩

theorem witness_EveryStepKeepsTheInvariant : readyState.Inv ∧ step readyState = .next readyNext := ⟨by decide, rfl⟩

theorem witness_NoStepWritesAParameter :
    step readyState = .next readyNext ∧ (1 ≤ 1 ∧ 1 ≤ 16) ∧ (1 ≤ 16 ∧ 16 ≤ 16) ∧ readyState.cfg.debounceN = 5 :=
  ⟨rfl, by decide, by decide, rfl⟩

theorem witness_UnlentStatesOnlyArm :
    (double .idle true).st.lent = false ∧ (double .error true).st.lent = false ∧ (double .frameReady true).st.lent = false := by
  decide

theorem witness_QuietTransactionsChangeNothing :
    (double .receiving true).st.lent = true ∧ (single .stopping true).st.lent = true := by decide

theorem witness_ByteWriteStoresItsByte :
    (double .receiving true).fb.wf = true ∧ (double .receiving true).st.lent = true ∧ 17 < 18 := by decide

theorem witness_ByteWriteOutsideTheBufferChangesNothing : (single .stopping true).st.lent = true ∧ 18 ≤ 18 := by decide

/-- A byte write that changes byte 17. -/
def written : State := nextOr readyState (exec (.byteWrite 17 0xEE) readyState)

theorem witness_OnlyALentByteWriteChangesTheBuffer :
    exec (.byteWrite 17 0xEE) readyState = .next written ∧ written.fb.read 17 ≠ readyState.fb.read 17 := ⟨rfl, by decide⟩

theorem witness_ByteWriteIsIdempotent :
    readyState.fb.wf = true ∧ readyState.st.lent = true ∧ exec (.byteWrite 17 0xEE) readyState = .next written
      ∧ exec (.byteWrite 17 0xEE) written = .next (nextOr written (exec (.byteWrite 17 0xEE) written)) :=
  ⟨by decide, rfl, rfl, rfl⟩

theorem witness_ValidBurstIsDecodedAndRearmed :
    (double .receiving true).st = .receiving ∧ (single .receiving true).st = .receiving := ⟨rfl, rfl⟩

theorem witness_InvalidBurstIsDiscardedAndRearmed :
    (double .receiving true).st = .receiving ∧ ¬(0 = 0 ∧ 17 = 18) ∧ ¬(1 = 0 ∧ 18 = 18) := by decide

theorem witness_StoppingIgnoresBurstEndsAndRequests : (single .stopping true).st = .stopping := rfl

theorem witness_BufferNeededArmsOnlyUnderDoubleBuffer : (single .receiving true).st = .receiving := rfl

theorem witness_UnsolicitedStopDiscardsAndRearms : (single .receiving true).st = .receiving := rfl

theorem witness_AcknowledgmentRearms : (single .stopping false).st = .stopping := rfl

theorem witness_FrameValidExactlyOnAcceptedBurst :
    readyState.nextInput.rst = false ∧ step readyState = .next readyNext ∧ readyNext.out.frameValid = true :=
  ⟨rfl, rfl, by decide⟩

theorem witness_FrameValidExactlyOnAcceptedBurst_notAccepted :
    emptyState.nextInput.rst = false ∧ step emptyState = .next (nextOr emptyState (step emptyState))
      ∧ (nextOr emptyState (step emptyState)).out.frameValid = false := ⟨rfl, rfl, by decide⟩

theorem witness_RequestsExactlyByTheTransitionTable :
    exec (.bytesReady 0 18) readyState = .next readyExec ∧ readyState.st = .receiving ∧ isTerminal (.bytesReady 0 18) = true :=
  ⟨rfl, rfl, rfl⟩

theorem witness_ErrorStrobesExactly : exec (.bytesReady 0 18) readyState = .next readyExec := rfl

theorem witness_NoSilentStall : step readyState = .next readyNext := rfl

theorem witness_LendingFollowsTheLastRequest :
    readyState.nextInput.rst = false ∧ step readyState = .next readyNext := ⟨rfl, rfl⟩

/-- A truncated burst under `DOUBLE_BUFFER`, re-armed. -/
def truncState : State := at_ .doubleBuffer .receiving [sample 0x400A true]

theorem witness_FrameReadyIsNeverHeld :
    (readyState.nextInput.rst = false ∧ step readyState = .next readyNext ∧ readyNext.out.frameValid = true)
      ∧ truncState.nextInput.rst = false ∧ step truncState = .next (nextOr truncState (step truncState))
      ∧ truncatedFrame (nextOr truncState (step truncState)) = true ∧ truncState.cfg.policy = .doubleBuffer
      ∧ truncState.nextInput.armOk = true := ⟨⟨rfl, rfl, by decide⟩, rfl, rfl, by decide, rfl, rfl⟩

/-- A reset edge. -/
def resetting : State := at_ .singleShot .stopping [⟨true, 0x4012, true⟩]

theorem witness_IdleOnlyByReset :
    step resetting = .next (nextOr resetting (step resetting)) ∧ (nextOr resetting (step resetting)).st = .idle :=
  ⟨rfl, by decide⟩

theorem witness_ErrorEntryIsPrecise :
    exec .nop (double .idle false) = .next (nextOr (double .idle false) (exec .nop (double .idle false)))
      ∧ (nextOr (double .idle false) (exec .nop (double .idle false))).st = .error
      ∧ (nextOr (double .idle false) (exec .nop (double .idle false))).out.frameValid = false :=
  ⟨rfl, by decide, by decide⟩

theorem witness_ArmResultMattersOnlyWhenArming :
    step { emptyState with inputs := [sample 0x23A5 true] } = .next (emptyState.after (sample 0x23A5 true))
      ∧ step { emptyState with inputs := [sample 0x23A5 false] } = .next (emptyState.after (sample 0x23A5 false))
      ∧ (emptyState.after (sample 0x23A5 true)).out.armReq = false := ⟨rfl, rfl, by decide⟩

theorem witness_FrameOutputShowsTheBuffer :
    readyState.nextInput.rst = false ∧ step readyState = .next readyNext ∧ 17 < 18 := ⟨rfl, rfl, by decide⟩

theorem witness_StateCodesOfR89 : 5 ≤ (5#3).toNat ∧ 5 ≤ (7#3).toNat := by decide

/-- Two failing samples. -/
def fails : List Input := [sample 0x2012 false, sample 0x0000 false]

/-- `ERROR` with two failing samples and then a good one. -/
def failing : State := at_ .doubleBuffer .error (fails ++ [sample 0x0000 true])

theorem witness_FailedArmsHoldError :
    failing.st = .error ∧ failing.inputs = fails ++ [sample 0x0000 true] ∧ NoReset fails ∧ (∀ inp ∈ fails, inp.armOk = false)
      ∧ fails ≠ [] := by decide

theorem witness_FirstSuccessfulArmLeavesError :
    failing.st = .error ∧ failing.inputs = fails ++ sample 0x0000 true :: [] ∧ NoReset (fails ++ [sample 0x0000 true])
      ∧ (∀ inp ∈ fails, inp.armOk = false) ∧ (sample 0x0000 true).armOk = true := by decide

/-- A late byte and a late burst end, and then the acknowledgment. -/
def waiting : State := at_ .singleShot .stopping ([sample 0x2000 true, sample 0x4001 true] ++ [sample 0xA000 true])

theorem witness_StoppingWaitsForTheAcknowledgment :
    waiting.st = .stopping ∧ waiting.inputs = [sample 0x2000 true, sample 0x4001 true] ++ [sample 0xA000 true]
      ∧ NoReset [sample 0x2000 true, sample 0x4001 true]
      ∧ (∀ inp ∈ [sample 0x2000 true, sample 0x4001 true], isAck inp.instr = false)
      ∧ [sample 0x2000 true, sample 0x4001 true] ≠ []
      ∧ [sample 0xA000 true] = sample 0xA000 true :: [] ∧ (sample 0xA000 true).rst = false
      ∧ isAck (sample 0xA000 true).instr = true := by decide

/-- A transport that never acknowledges (R234): nothing follows the waits. -/
theorem witness_StoppingWaitsForTheAcknowledgment_never :
    (at_ .singleShot .stopping fails).st = .stopping ∧ (at_ .singleShot .stopping fails).inputs = fails ++ []
      ∧ NoReset fails ∧ (∀ inp ∈ fails, isAck inp.instr = false) ∧ fails ≠ [] := by decide

/-- Two byte writes of one index, and then a valid burst end. -/
def filling : State := at_ .doubleBuffer .receiving ([sample 0x2511 true, sample 0x2522 true] ++ [sample 0x4012 true])

theorem witness_AcceptedFrameIsTheBytesLastWritten :
    filling.fb.wf = true ∧ filling.st = .receiving
      ∧ filling.inputs = [sample 0x2511 true, sample 0x2522 true] ++ sample 0x4012 true :: []
      ∧ NoReset ([sample 0x2511 true, sample 0x2522 true] ++ [sample 0x4012 true])
      ∧ (∀ inp ∈ [sample 0x2511 true, sample 0x2522 true], isFilling inp.instr = true)
      ∧ (sample 0x4012 true).instr = .bytesReady 0 18 := by decide

/-- The 18 byte writes of a burst of ones. -/
def eighteen : List Input := (List.range 18).map (fun i => sample (encode (.byteWrite i 1)) true)

/-- The burst, and then its end; the buffer before it is that of `at_`, or else an empty one. -/
def refilling : State := at_ .doubleBuffer .receiving (eighteen ++ [sample 0x4012 true])

theorem witness_DutyT2LeavesNoStaleByte :
    refilling.fb.wf = true ∧ Memory.wf [] = true ∧ refilling.fb ≠ [] ∧ refilling.st = .receiving
      ∧ refilling.inputs = eighteen ++ sample 0x4012 true :: [] ∧ NoReset (eighteen ++ [sample 0x4012 true])
      ∧ (∀ inp ∈ eighteen, isFilling inp.instr = true) ∧ dutyT2 (eighteen.map Input.instr) 0 18
      ∧ (sample 0x4012 true).instr = .bytesReady 0 18 ∧ 17 < 18 := by
  unfold dutyT2
  decide

/-- The bytes of a frame of ones. -/
def ones : List Byte := List.replicate 18 1

/-- A whole frame queued in `RECEIVING`. -/
def framing : State := at_ .singleShot .receiving (samplesOf (AsmLine.frame (ones.map BitVec.toNat)).words false)

theorem witness_WholeFrameBurstIsAccepted :
    ones.length = 18 ∧ framing.fb.wf = true ∧ framing.st = .receiving
      ∧ framing.inputs = samplesOf (AsmLine.frame (ones.map BitVec.toNat)).words false ++ [] ∧ 17 < ones.length :=
  ⟨rfl, by decide, rfl, by simp [framing, at_], by decide⟩

/-- A truncated burst and an acknowledgment under `SINGLE_SHOT`. -/
def recovering : State := at_ .singleShot .receiving [sample 0x400A true, sample 0xC000 true]

theorem witness_TruncatedBurstReturnsToReceiving :
    recovering.st = .receiving ∧ recovering.inputs = sample 0x400A true :: sample 0xC000 true :: []
      ∧ (sample 0x400A true).rst = false ∧ (sample 0xC000 true).rst = false
      ∧ (sample 0x400A true).instr = .bytesReady 0 10 ∧ ¬(0 = 0 ∧ 10 = 18) ∧ (sample 0x400A true).armOk = true
      ∧ isAck (sample 0xC000 true).instr = true ∧ (sample 0xC000 true).armOk = true := by decide

/-- A stop acknowledged by two events. -/
def twice : State := at_ .singleShot .stopping [sample 0xA000 true, sample 0xC000 false]

theorem witness_SecondAcknowledgmentIsSpuriousTruncation :
    twice.st = .stopping ∧ twice.inputs = sample 0xA000 true :: sample 0xC000 false :: []
      ∧ (sample 0xA000 true).rst = false ∧ (sample 0xC000 false).rst = false
      ∧ isAck (sample 0xA000 true).instr = true ∧ isAck (sample 0xC000 false).instr = true
      ∧ (sample 0xA000 true).armOk = true := by decide

/-- A stream of stops, each armed again. -/
def stops : Nat → Input := fun _ => sample 0xA000 true

theorem witness_ReceivingRecursUnderTheDuties :
    (∀ n, (stops n).rst = false) ∧ (single .idle true).st ≠ .stopping ∧ dutyT3 stops (single .idle true)
      ∧ fairnessT6 stops (single .idle true) := by
  refine ⟨fun _ => rfl, by decide, fun n _ => ⟨n + 1, Nat.lt_succ_self n, (by decide : isAck (sample 0xA000 true).instr = true)⟩, fun h n => ?_⟩
  obtain ⟨m, hm, ha⟩ := h n
  exact ⟨m, hm, ha, rfl⟩

/-- A `NOP` whose arm succeeds, and valid burst ends ever after. -/
def synced : Nat → Input
  | 0 => sample 0x0000 true
  | _ + 1 => sample 0x4012 true

theorem witness_ReceivingRecursUnderTheDuties_byteSync :
    (∀ n, (synced n).rst = false) ∧ dutyT4Success synced (double .idle true) ∧ 0 < 1 ∧ armsAt synced (double .idle true) 0
      ∧ (synced 0).armOk = true ∧ (∀ k, 0 < k → k < 1 → isBurstEnd (synced k).instr = false)
      ∧ (synced 1).instr = .bytesReady 0 18 ∧ (runOn synced (double .idle true) 1).st = .receiving := by
  refine ⟨fun n => by cases n <;> rfl, fun n _ _ m hm => ?_, by decide, by decide, rfl, fun k h h' => by omega, by decide, by decide⟩
  obtain ⟨m, rfl⟩ : ∃ k, m = k + 1 := ⟨m - 1, by omega⟩
  exact ⟨fun _ => .inr (by decide : burstPlace (sample 0x4012 true).instr = some 0), fun _ offset length h =>
    (Instr.bytesReady.inj ((by decide : Instr.bytesReady 0 18 = (sample 0x4012 true).instr).trans h)).1.symm⟩

/-- `NOP`s whose arms all fail. -/
def refusing : Nat → Input := fun _ => sample 0x0000 false

theorem witness_ReceivingRecursUnderTheDuties_failedArm :
    (∀ n, (refusing n).rst = false) ∧ dutyT4Failure refusing (double .idle true) ∧ (double .idle true).st ≠ .error
      ∧ (runOn refusing (double .idle true) 1).st = .error :=
  ⟨fun _ => rfl, fun _ _ _ => (by decide : burstPlace (sample 0x0000 false).instr = none), by decide, by decide⟩

/-- Valid burst ends, with a word between each two of them. -/
def served (w : Word) (n : Nat) : Input := if n % 2 = 0 then sample 0x4012 true else sample w true

/-- A later burst end ends every reception of `served`. -/
theorem served_ends (w : Word) (s : State) (n : Nat) : receptionEndsAfter (served w) s n :=
  ⟨2 * n + 2, by omega, .inl (by
    rw [served, if_pos (by omega)]
    exact (by decide : isTerminal (sample 0x4012 true).instr = true))⟩

theorem witness_ReceivingRecursUnderTheDuties_noStall :
    (∀ w n, (served w n).rst = false)
      ∧ (∀ w, dutyT5 (served w) (single .idle true) ∧ dutyT7 (served w) (single .idle true))
      ∧ (runOn (served 0x6000) (single .idle true) 1).st = .receiving ∧ (served 0x6000 1).instr = .bufferNeeded
      ∧ (runOn (served 0x3104) (single .idle true) 1).st = .receiving ∧ (served 0x3104 1).instr = .byteWrite 17 4 :=
  ⟨fun w n => by unfold served; split <;> rfl, fun w => ⟨fun n _ _ => served_ends w _ n, fun n _ _ => served_ends w _ n⟩,
    by decide, by decide, by decide, by decide⟩

theorem witness_VelocitiesAndKeysAreLittleEndian : 0 < 16 ∧ 7 < 8 ∧ 8 < 16 ∧ ¬8 < 8 ∧ 15 < 16 := by decide

theorem witness_PackedFrameExtractsToItsFields :
    ∀ i, i < 18 → frameA.read i = frameByte (packFrame (extractFields frameA) 0 0 0) i := by decide

/-- Frame F-UNUSED of V-DEC-10: every unused bit set, no other. -/
def frameUnused : Memory :=
  bufferFrom 0 [0, 0, 0, 0, 0, 0, 0, 0, 0, 0, 0, 0, 0xFE, 0xFE, 0, 0, 0, 0xF8]

theorem witness_UnusedFrameBitsAffectNoField :
    (∀ i, i < 18 → i ≠ 12 → i ≠ 13 → i ≠ 17 → frameUnused.read i = Memory.read [] i)
      ∧ (frameUnused.read 12).getLsbD 0 = (Memory.read [] 12).getLsbD 0
      ∧ (frameUnused.read 13).getLsbD 0 = (Memory.read [] 13).getLsbD 0
      ∧ (frameUnused.read 17).extractLsb' 0 3 = (Memory.read [] 17).extractLsb' 0 3 := by decide

/-- Raw 0 in every channel and the wheel (V-DEC-9), and raw 0x7FF (V-DEC-6): the ends of the range. -/
theorem witness_ChannelAndWheelRoundTrip :
    (-1024 : Int) ≤ -1024 ∧ (-1024 : Int) ≤ 1023 ∧ (1023 : Int) ≤ 1023 ∧ 0 < 4 ∧ 3 < 4 ∧ (((Memory.window []).extractLsb' (11 * 3) 11).toNat : Int) = -1024 + 1024
      ∧ (((bufferFrom 0 (List.replicate 18 0xFF)).window.extractLsb' (11 * 0) 11).toNat : Int) = 1023 + 1024
      ∧ ((((Memory.read [] 17).extractLsb' 0 3 ++ Memory.read [] 16 : BitVec 11).toNat : Int) = -1024 + 1024) := by decide

theorem witness_DebounceStepByStep :
    1 ≤ 16 ∧ 16 ≤ 16 ∧ (1#2 ≠ 0#2) ∧ 16 ≤ (15#4).toNat + 1 ∧ (14#4).toNat + 1 < 16 := by decide

theorem witness_DebounceLaws :
    1 ≤ 2 ∧ 2 ≤ 16 ∧ [1#2].length = 2 - 1 ∧ (∀ c ∈ [1#2], c ≠ 0#2) ∧ 3#2 ≠ 0#2
      ∧ ∀ i, i < 2 → 0#2 ∈ ([0#2, 1#2, 0#2].drop i).take 2 := by decide

theorem witness_SwitchFiltersAreIndependent :
    (double .receiving true).cfg = (double .stopping false).cfg
      ∧ (double .receiving true).cs.s1 = (double .stopping false).cs.s1
      ∧ (double .receiving true).cntS1 = (double .stopping false).cntS1
      ∧ ((double .receiving true).fb.read 5).extractLsb' 6 2 = ((double .stopping false).fb.read 5).extractLsb' 6 2 := by decide

theorem witness_PseudoTransactionsExpand :
    1 ≤ (List.replicate 32 255).length ∧ (List.replicate 32 255).length ≤ 32 ∧ ∀ d ∈ List.replicate 32 255, d < 256 := by decide

end Sys2Proof.Tests
end

section
/-! PROOFS. What a clock edge can do, said once, and the scope of the block: every edge answers a next state (R9, R110,
R204) and no edge writes a build-time parameter (R11). -/

namespace Sys2Proof.Machine

/-! ### What a transaction and a clock edge answer -/

/-- Every transaction is a dispatch on the assembler state (R130), whatever the state. -/
theorem exec_eq_perState (i : Instr) (s : State) :
    ∃ whenReceiving whenStopping : State → State, exec i s = .next (s.perState whenReceiving whenStopping) := by
  cases i with
  | nop => exact ⟨State.skip, State.skip, rfl⟩
  | byteWrite idx data => exact ⟨(·.writeByte idx data), (·.writeByte idx data), rfl⟩
  | bytesReady offset length => exact ⟨fun t => (t.endBurst offset length).rearm, State.skip, rfl⟩
  | bufferNeeded => exact ⟨State.resupply, State.skip, rfl⟩
  | bufferReleased => exact ⟨State.skip, State.skip, rfl⟩
  | receptionStopped => exact ⟨(·.raiseTruncatedFrame.arm), State.arm, rfl⟩
  | receptionDisabled => exact ⟨(·.raiseTruncatedFrame.arm), State.arm, rfl⟩
  | rsv7 => exact ⟨State.skip, State.skip, rfl⟩

/-- No transaction faults or is refused, in any state (R200, R204). -/
theorem exec_answers_next (i : Instr) (s : State) : ∃ t, exec i s = .next t := by
  obtain ⟨r, p, h⟩ := exec_eq_perState i s
  exact ⟨s.perState r p, h⟩

/-- An edge with `rst` = 1 (R230). -/
theorem step_of_rst {s : State} (h : s.nextInput.rst = true) : step s = .next s.resetEdge := by
  simp [step, h]

/-- An edge with `rst` = 0 runs the decoded transaction and consumes its sample (R110). -/
theorem step_of_exec {s t : State} (h : s.nextInput.rst = false) (he : exec (decode s.nextInput.txn) s = .next t) :
    step s = .next t.advance := by
  simp [step, h, he]

/-- All a clock edge can do: reset, or one step of its decoded transaction. -/
theorem step_cases (s : State) :
    (s.nextInput.rst = true ∧ step s = .next s.resetEdge)
      ∨ ∃ t, s.nextInput.rst = false ∧ exec (decode s.nextInput.txn) s = .next t ∧ step s = .next t.advance := by
  cases hr : s.nextInput.rst with
  | true => exact .inl ⟨rfl, step_of_rst hr⟩
  | false =>
    obtain ⟨t, he⟩ := exec_answers_next (decode s.nextInput.txn) s
    exact .inr ⟨t, rfl, he, step_of_exec hr he⟩

/-- Settles O8: both kinds of edge answer, since every transaction does. -/
theorem everyStepAnswersNext : Obligations.EveryStepAnswersNext := by
  refine ⟨fun s => ?_, exec_answers_next⟩
  obtain ⟨-, hs⟩ | ⟨t, -, -, hs⟩ := step_cases s
  · exact ⟨s.resetEdge, hs⟩
  · exact ⟨t.advance, hs⟩

/-! ### The build-time parameters -/

@[simp] theorem arm_cfg (s : State) : s.arm.cfg = s.cfg := by rw [arm_eq]

@[simp] theorem rearm_cfg (s : State) : s.rearm.cfg = s.cfg := by
  cases hp : s.cfg.policy with
  | doubleBuffer => rw [rearm_doubleBuffer hp, arm_cfg]
  | singleShot => rw [rearm_singleShot hp, stop_cfg]

@[simp] theorem resupply_cfg (s : State) : s.resupply.cfg = s.cfg := by
  cases hp : s.cfg.policy with
  | doubleBuffer => rw [resupply_doubleBuffer hp, arm_cfg]
  | singleShot => rw [resupply_singleShot hp]

/-- No transaction writes a parameter: each case of R131 is a composition of operations that keep them. -/
theorem exec_cfg {i : Instr} {s t : State} (h : exec i s = .next t) : t.cfg = s.cfg := by
  cases exec_cases h <;> simp

/-- No clock edge writes a parameter, a reset edge included (R11). -/
theorem step_cfg {s t : State} (h : step s = .next t) : t.cfg = s.cfg := by
  obtain ⟨-, hs⟩ | ⟨u, -, he, hs⟩ := step_cases s
  · obtain rfl : s.resetEdge = t := Host.Outcome.next.inj (hs.symm.trans h)
    exact resetEdge_cfg s
  · obtain rfl : u.advance = t := Host.Outcome.next.inj (hs.symm.trans h)
    exact (advance_cfg u).trans (exec_cfg he)

/-- `DEBOUNCE_N` takes the values 1 to 16 and no other (R11, D12). -/
theorem exists_debounceN_eq_iff (n : Nat) : (∃ c : Config, c.debounceN = n) ↔ 1 ≤ n ∧ n ≤ 16 := by
  constructor
  · rintro ⟨c, rfl⟩
    exact ⟨debounceN_pos c, debounceN_le c⟩
  · rintro ⟨hlo, hhi⟩
    exact ⟨⟨.doubleBuffer, ⟨n - 1, by omega⟩, 0⟩, Nat.sub_add_cancel hlo⟩

/-- Settles O14: the default of 5 and the frame length are those of their definitions. -/
theorem noStepWritesAParameter : Obligations.NoStepWritesAParameter :=
  ⟨fun _ _ => step_cfg, fun n => (exists_debounceN_eq_iff n).symm, fun _ _ => ⟨rfl, rfl, rfl⟩, rfl⟩

end Sys2Proof.Machine
end

section
/-! PROOFS. What a step shows and reads of the ports: the outputs that no rule of a step sets (R34, R111), and the arm
result, read by `ARM()` alone (R33, I6). -/

namespace Sys2Proof.Machine

/-! ### The outputs that no rule of a step sets -/

@[simp] theorem arm_frame (s : State) : s.arm.out.frame = s.out.frame := by rw [arm_eq]

@[simp] theorem arm_armTimeout (s : State) : s.arm.out.armTimeout = s.out.armTimeout := by rw [arm_eq]

@[simp] theorem rearm_frame (s : State) : s.rearm.out.frame = s.out.frame := by
  cases hp : s.cfg.policy with
  | doubleBuffer => rw [rearm_doubleBuffer hp, arm_frame]
  | singleShot => rw [rearm_singleShot hp, stop_frame]

@[simp] theorem rearm_armTimeout (s : State) : s.rearm.out.armTimeout = s.out.armTimeout := by
  cases hp : s.cfg.policy with
  | doubleBuffer => rw [rearm_doubleBuffer hp, arm_armTimeout]
  | singleShot => rw [rearm_singleShot hp, stop_armTimeout]

@[simp] theorem resupply_frame (s : State) : s.resupply.out.frame = s.out.frame := by
  cases hp : s.cfg.policy with
  | doubleBuffer => rw [resupply_doubleBuffer hp, arm_frame]
  | singleShot => rw [resupply_singleShot hp]

@[simp] theorem resupply_armTimeout (s : State) : s.resupply.out.armTimeout = s.out.armTimeout := by
  cases hp : s.cfg.policy with
  | doubleBuffer => rw [resupply_doubleBuffer hp, arm_armTimeout]
  | singleShot => rw [resupply_singleShot hp]

/-- Each case of R131 starts from the default outputs and is a composition of operations that keep these two. -/
theorem exec_showsStart {i : Instr} {s t : State} (h : exec i s = .next t) : ShowsStart s t := by
  cases exec_cases h <;> simp [ShowsStart]

/-- The byte at the lower index of a pair is its lower half (R63). -/
theorem pair_low (m : Memory) (i : Nat) : (m.pair i).extractLsb' 0 8 = m.read i := BitVec.extractLsb'_append_eq_right

/-- The byte at the higher index of a pair is its upper half (R63). -/
theorem pair_high (m : Memory) (i : Nat) : (m.pair i).extractLsb' 8 8 = m.read (i + 1) := BitVec.extractLsb'_append_eq_left

/-- Byte `i` of the `frame` output (R34), for each of the 18: what stands above and below its pair is cut off. -/
theorem frameBits_byte (m : Memory) {i : Nat} (h : i < 18) : m.frameBits.extractLsb' (8 * i) 8 = m.read i := by
  unfold Memory.frameBits Memory.window
  interval_cases i <;>
    simp (disch := decide) only [BitVec.extractLsb'_append_eq_of_add_le, BitVec.extractLsb'_append_eq_of_le] <;>
    simp [pair_low, pair_high]

/-- Settles O36: the end of the edge keeps the outputs of its transaction. -/
theorem frameOutputShowsTheBuffer : Obligations.FrameOutputShowsTheBuffer := by
  intro s t hr h
  obtain ⟨hrst, -⟩ | ⟨u, -, he, hs⟩ := step_cases s
  · rw [hr] at hrst
    contradiction
  · obtain rfl : u.advance = t := Host.Outcome.next.inj (hs.symm.trans h)
    obtain ⟨hframe, htimeout⟩ := exec_showsStart he
    rw [advance_out, hframe]
    exact ⟨htimeout, fun _ => frameBits_byte s.fb⟩

/-! ### The arm result -/

@[simp] theorem arm_armReq (s : State) : s.arm.out.armReq = true := by rw [arm_eq]

/-- The state with other samples queued at the input ports. -/
def State.withQueue (s : State) (queue : List Input) : State := { s with inputs := queue }

/-- From `s`, the operation either arms whatever samples are queued, or it reads none of them and arms for none. -/
def ArmsOrIgnoresQueue (f : State → State) (s : State) : Prop :=
  (∀ queue, (f (s.withQueue queue)).out.armReq = true)
    ∨ ∃ t : State, t.out.armReq = false ∧ ∀ queue, f (s.withQueue queue) = t.withQueue queue

/-- An operation that agrees with `g` on every queue shares the property. -/
theorem ArmsOrIgnoresQueue.congr {f g : State → State} {s t : State} (hg : ArmsOrIgnoresQueue g t)
    (h : ∀ queue, f (s.withQueue queue) = g (t.withQueue queue)) : ArmsOrIgnoresQueue f s := by
  simpa only [ArmsOrIgnoresQueue, h] using hg

/-- `ARM()` after any operation arms. -/
theorem armsOrIgnoresQueue_arm (f : State → State) (s : State) : ArmsOrIgnoresQueue (fun t => (f t).arm) s :=
  .inl fun _ => arm_armReq _

theorem armsOrIgnoresQueue_skip {s : State} (h : s.out.armReq = false) : ArmsOrIgnoresQueue State.skip s :=
  .inr ⟨s, h, fun _ => rfl⟩

theorem armsOrIgnoresQueue_writeByte {s : State} (idx : Nat) (data : Byte) (h : s.out.armReq = false) :
    ArmsOrIgnoresQueue (·.writeByte idx data) s :=
  .inr ⟨s.writeByte idx data, h, fun _ => rfl⟩

theorem armsOrIgnoresQueue_resupply {s : State} (h : s.out.armReq = false) : ArmsOrIgnoresQueue State.resupply s := by
  cases hp : s.cfg.policy with
  | doubleBuffer => exact (armsOrIgnoresQueue_arm id s).congr fun _ => resupply_doubleBuffer hp
  | singleShot => exact (armsOrIgnoresQueue_skip h).congr fun _ => resupply_singleShot hp

theorem armsOrIgnoresQueue_rearm {s : State} (h : s.out.armReq = false) : ArmsOrIgnoresQueue State.rearm s := by
  cases hp : s.cfg.policy with
  | doubleBuffer => exact (armsOrIgnoresQueue_arm id s).congr fun _ => rearm_doubleBuffer hp
  | singleShot => exact .inr ⟨s.stop, h, fun _ => rearm_singleShot hp⟩

/-- The burst end before its re-arm: it decides on the operands alone. -/
theorem endBurst_withQueue (s : State) (queue : List Input) (offset length : Nat) :
    (s.withQueue queue).endBurst offset length = (s.endBurst offset length).withQueue queue := by
  by_cases hv : offset = 0 ∧ length = 18
  · rw [endBurst_valid _ hv, endBurst_valid _ hv]; rfl
  · rw [endBurst_invalid _ hv, endBurst_invalid _ hv]; rfl

@[simp] theorem endBurst_armReq (s : State) (offset length : Nat) :
    (s.endBurst offset length).out.armReq = s.out.armReq := by
  by_cases hv : offset = 0 ∧ length = 18
  · rw [endBurst_valid _ hv, decodeFrame_out, strobeFrameValid_armReq]
  · rw [endBurst_invalid _ hv, raiseTruncatedFrame_armReq]

theorem armsOrIgnoresQueue_endBurst_rearm {s : State} (offset length : Nat) (h : s.out.armReq = false) :
    ArmsOrIgnoresQueue (fun t => (t.endBurst offset length).rearm) s :=
  (armsOrIgnoresQueue_rearm ((endBurst_armReq s offset length).trans h)).congr fun queue =>
    congrArg State.rearm (endBurst_withQueue s queue offset length)

/-- The dispatch has the property if what it does in `RECEIVING` and in `STOPPING` has it at the start of the step. -/
theorem armsOrIgnoresQueue_perState {r p : State → State} {s : State} (hr : ArmsOrIgnoresQueue r s.beginStep)
    (hp : ArmsOrIgnoresQueue p s.beginStep) : ArmsOrIgnoresQueue (·.perState r p) s := by
  obtain ⟨hs, -⟩ | ⟨hs, -⟩ | ⟨hs, -⟩ := perState_cases s r p
  · exact hr.congr fun _ => perState_receiving r p hs
  · exact hp.congr fun _ => perState_stopping r p hs
  · exact (armsOrIgnoresQueue_arm id s.beginStep).congr fun _ => perState_unlent r p hs

/-- Every transaction, as a function of the state, arms whatever is queued or reads nothing of the queue (R33, R131). -/
theorem exec_armsOrIgnoresQueue (i : Instr) (s : State) :
    ∃ f : State → State, (∀ t, exec i t = .next (f t)) ∧ ArmsOrIgnoresQueue f s := by
  have quiet : ArmsOrIgnoresQueue State.skip s.beginStep := armsOrIgnoresQueue_skip rfl
  cases i with
  | nop => exact ⟨_, fun _ => rfl, armsOrIgnoresQueue_perState quiet quiet⟩
  | byteWrite idx data =>
    have writes := armsOrIgnoresQueue_writeByte (s := s.beginStep) idx data rfl
    exact ⟨_, fun _ => rfl, armsOrIgnoresQueue_perState writes writes⟩
  | bytesReady offset length =>
    exact ⟨_, fun _ => rfl, armsOrIgnoresQueue_perState (armsOrIgnoresQueue_endBurst_rearm offset length rfl) quiet⟩
  | bufferNeeded => exact ⟨_, fun _ => rfl, armsOrIgnoresQueue_perState (armsOrIgnoresQueue_resupply rfl) quiet⟩
  | bufferReleased => exact ⟨_, fun _ => rfl, armsOrIgnoresQueue_perState quiet quiet⟩
  | receptionStopped =>
    exact ⟨_, fun _ => rfl,
      armsOrIgnoresQueue_perState (armsOrIgnoresQueue_arm State.raiseTruncatedFrame _) (armsOrIgnoresQueue_arm id _)⟩
  | receptionDisabled =>
    exact ⟨_, fun _ => rfl,
      armsOrIgnoresQueue_perState (armsOrIgnoresQueue_arm State.raiseTruncatedFrame _) (armsOrIgnoresQueue_arm id _)⟩
  | rsv7 => exact ⟨_, fun _ => rfl, armsOrIgnoresQueue_perState quiet quiet⟩

/-- Settles O35: a transaction that does not arm leaves one state for every queue, and the end of the edge drops the
sample that holds the arm result. -/
theorem armResultMattersOnlyWhenArming : Obligations.ArmResultMattersOnlyWhenArming := by
  intro s t u w rest ht hu
  obtain ⟨f, hf, hcases⟩ := exec_armsOrIgnoresQueue (decode w) s
  have edge (ok : Bool) : step (s.withQueue (⟨false, w, ok⟩ :: rest))
      = .next (f (s.withQueue (⟨false, w, ok⟩ :: rest))).advance := step_of_exec rfl (hf _)
  obtain rfl := Host.Outcome.next.inj ((edge true).symm.trans ht)
  obtain rfl := Host.Outcome.next.inj ((edge false).symm.trans hu)
  rw [advance_out, advance_out]
  obtain harms | ⟨v, -, hv⟩ := hcases
  · rw [harms, harms]
    exact ⟨rfl, fun h => absurd h (by decide)⟩
  · rw [hv, hv]
    exact ⟨rfl, fun _ => rfl⟩

end Sys2Proof.Machine
end

section
/-! PROOFS. The frame buffer across a transaction: only a byte write inside the buffer and while it is lent changes it
(R22, R61), and a second write of the same byte finds it as it is (R66). -/

namespace Sys2Proof.Machine

/-! ### The operations that leave the buffer alone -/

@[simp] theorem arm_fb (s : State) : s.arm.fb = s.fb := by rw [arm_eq]

@[simp] theorem rearm_fb (s : State) : s.rearm.fb = s.fb := by
  cases hp : s.cfg.policy with
  | doubleBuffer => rw [rearm_doubleBuffer hp, arm_fb]
  | singleShot => rw [rearm_singleShot hp, stop_fb]

@[simp] theorem resupply_fb (s : State) : s.resupply.fb = s.fb := by
  cases hp : s.cfg.policy with
  | doubleBuffer => rw [resupply_doubleBuffer hp, arm_fb]
  | singleShot => rw [resupply_singleShot hp]

/-! ### The byte write -/

theorem indexInFrame_iff {idx : Nat} : indexInFrame idx = true ↔ idx < 18 := decide_eq_true_iff

/-- A byte write inside the buffer (R61). -/
theorem writeByte_fb_of_lt (s : State) {idx : Nat} (data : Byte) (h : idx < 18) :
    (s.writeByte idx data).fb = s.fb.write idx data := by
  rw [writeByte_fb, if_pos (indexInFrame_iff.mpr h)]

/-- A byte write outside the buffer writes nothing (R61). -/
theorem writeByte_fb_of_not_lt (s : State) {idx : Nat} (data : Byte) (h : ¬idx < 18) :
    (s.writeByte idx data).fb = s.fb := by
  rw [writeByte_fb, if_neg (mt indexInFrame_iff.mp h)]

/-- While the buffer is lent, `BYTE_WRITE` is its byte write and nothing else, in `RECEIVING` and in `STOPPING` (R116,
R128). -/
theorem exec_byteWrite_of_lent {s : State} (h : s.st.lent = true) (idx : Nat) (data : Byte) :
    exec (.byteWrite idx data) s = .next (s.beginStep.writeByte idx data) := by
  obtain ⟨-, he⟩ | ⟨-, he⟩ | ⟨hu, -⟩ := perState_cases s (·.writeByte idx data) (·.writeByte idx data)
  · exact congrArg Host.Outcome.next he
  · exact congrArg Host.Outcome.next he
  · rw [h] at hu
    contradiction

/-- All a transaction can do to the buffer: nothing, or the one write of a `BYTE_WRITE` inside it while it is lent. -/
theorem exec_fb_cases {i : Instr} {s t : State} (h : exec i s = .next t) :
    t.fb = s.fb
      ∨ ∃ idx data, i = .byteWrite idx data ∧ idx < 18 ∧ s.st.lent = true ∧ t.fb = s.fb.write idx data := by
  cases exec_cases h with
  | byteWrite hs idx data hi =>
    by_cases hidx : idx < 18
    · exact .inr ⟨idx, data, hi, hidx, hs, writeByte_fb_of_lt s.beginStep data hidx⟩
    · exact .inl (writeByte_fb_of_not_lt s.beginStep data hidx)
  | _ => exact .inl (by simp)

/-- Settles O19: the changed index is the one written, since a write leaves every other index alone. -/
theorem onlyALentByteWriteChangesTheBuffer : Obligations.OnlyALentByteWriteChangesTheBuffer := by
  intro i s t a h hne
  obtain hfb | ⟨idx, data, rfl, hidx, hlent, hfb⟩ := exec_fb_cases h
  · exact absurd (congrArg (Memory.read · a) hfb) hne
  · rw [hfb] at hne ⊢
    obtain rfl : a = idx := by
      by_contra ha
      exact hne (Memory.read_write_ne s.fb data ha)
    exact ⟨data, rfl, hidx, hlent, fun _ => Memory.read_write_ne s.fb data⟩

/-! ### Writing the same byte again -/

/-- Writing the byte an index already holds changes nothing of a canonical buffer, not even its representation. -/
theorem Memory.write_read_self {m : Memory} {lo : Nat} (i : Nat) (h : Memory.wfFrom lo m = true) :
    m.write i (m.read i) = m := by
  induction m generalizing lo with
  | nil => rfl
  | cons c m ih =>
    obtain ⟨a, b⟩ := c
    simp only [Memory.wfFrom, Bool.and_eq_true, decide_eq_true_eq] at h
    obtain ⟨⟨-, hb⟩, htail⟩ := h
    obtain hlt | rfl | hgt := Nat.lt_trichotomy i a
    · have hzero : Memory.read m i = 0#8 := Memory.read_below htail (Nat.lt_succ_of_lt hlt)
      simp [Memory.read, Memory.write, hlt, hlt.ne, hzero]
    · simp [Memory.read, Memory.write, hb]
    · simp [Memory.read, Memory.write, hgt.ne', hgt.not_gt, ih htail]

/-- The second of two equal byte writes leaves the buffer as the first left it, inside the buffer and outside it. -/
theorem writeByte_fb_of_written {s t : State} {idx : Nat} {data : Byte} (hwf : s.fb.wf = true)
    (ht : t.fb = (s.writeByte idx data).fb) : (t.writeByte idx data).fb = t.fb := by
  by_cases hidx : idx < 18
  · have hread : t.fb.read idx = data := by rw [ht, writeByte_read idx data hwf, if_pos ⟨rfl, hidx⟩]
    have hcanonical : t.fb.wf = true := by rw [ht]; exact writeByte_wf idx data hwf
    calc (t.writeByte idx data).fb
        = t.fb.write idx (t.fb.read idx) := by rw [writeByte_fb_of_lt t data hidx, hread]
      _ = t.fb := Memory.write_read_self idx hcanonical
  · exact writeByte_fb_of_not_lt t data hidx

/-- Settles O20: the first write keeps the state lent, so the second is a byte write too, of the byte already there. -/
theorem byteWriteIsIdempotent : Obligations.ByteWriteIsIdempotent := by
  intro s t u idx data hwf hlent ht hu
  obtain rfl := Host.Outcome.next.inj ((exec_byteWrite_of_lent hlent idx data).symm.trans ht)
  have hlent' : (s.beginStep.writeByte idx data).st.lent = true := hlent
  obtain rfl := Host.Outcome.next.inj ((exec_byteWrite_of_lent hlent' idx data).symm.trans hu)
  exact ⟨writeByte_fb_of_written (s := s.beginStep) hwf rfl, rfl, rfl, rfl, rfl⟩

end Sys2Proof.Machine
end

section
/-! PROOFS. The transaction word: its three fields as slices and as arithmetic (R80, R82), the row every word selects (R81,
R83), and that decoding and encoding agree both ways. -/

namespace Sys2Proof

/-! ### The fields of a word -/

@[simp] theorem kindField_wordOf (k : BitVec 3) (a : Nat) (b : Byte) : kindField (wordOf k a b) = k :=
  BitVec.extractLsb'_append_eq_left

@[simp] theorem bBits_wordOf (k : BitVec 3) (a : Nat) (b : Byte) : bBits (wordOf k a b) = b :=
  calc (wordOf k a b).extractLsb' 0 8
      = (BitVec.ofNat 5 a ++ b).extractLsb' 0 8 := BitVec.extractLsb'_append_eq_of_add_le (by decide)
    _ = b := BitVec.extractLsb'_append_eq_right

/-- The field `a` is the index or offset the word was built from, where it fits the field (R82). -/
theorem aField_wordOf (k : BitVec 3) {a : Nat} (b : Byte) (h : fitsA a = true) : aField (wordOf k a b) = a := by
  have hslice : (wordOf k a b).extractLsb' 8 5 = BitVec.ofNat 5 a :=
    calc (wordOf k a b).extractLsb' 8 5
        = (BitVec.ofNat 5 a ++ b).extractLsb' 8 5 := BitVec.extractLsb'_append_eq_of_add_le (by decide)
      _ = BitVec.ofNat 5 a := BitVec.extractLsb'_append_eq_left
  rw [aField, hslice, BitVec.toNat_ofNat]
  exact Nat.mod_eq_of_lt (of_decide_eq_true h)

/-- The field `b` is the length the word was built from, where it fits the field (R82). -/
theorem bField_wordOf (k : BitVec 3) (a : Nat) {b : Nat} (h : fitsB b = true) :
    bField (wordOf k a (BitVec.ofNat 8 b)) = b := by
  rw [bField, bBits_wordOf, BitVec.toNat_ofNat]
  exact Nat.mod_eq_of_lt (of_decide_eq_true h)

/-- A word is built from its own three fields: they partition its bits (R80). -/
theorem wordOf_fields (w : Word) : wordOf (kindField w) (aField w) (bBits w) = w := by
  have hlow : w.extractLsb' 8 5 ++ w.extractLsb' 0 8 = w.extractLsb' 0 13 :=
    BitVec.extractLsb'_append_extractLsb'_eq_extractLsb' rfl
  calc wordOf (kindField w) (aField w) (bBits w)
      = w.extractLsb' 13 3 ++ w.extractLsb' 0 13 := by
        rw [wordOf, aField, BitVec.ofNat_toNat, BitVec.setWidth_eq, bBits, hlow, kindField]
    _ = w := BitVec.extractLsb'_append_extractLsb'

/-- The value of a word built from fields: the kind from bit 13 on, the field `a` from bit 8 on (R80). -/
theorem toNat_wordOf (k : BitVec 3) (a : Nat) (b : Byte) :
    (wordOf k a b).toNat = k.toNat * 8192 + (a % 32 * 256 + b.toNat) := by
  have hb : b.toNat < 2 ^ 8 := b.isLt
  have hab : (BitVec.ofNat 5 a ++ b).toNat = a % 32 * 256 + b.toNat := by
    rw [BitVec.toNat_append, ← Nat.shiftLeft_add_eq_or_of_lt hb, Nat.shiftLeft_eq, BitVec.toNat_ofNat]
  have hlt : a % 32 * 256 + b.toNat < 2 ^ 13 := by omega
  rw [wordOf, BitVec.toNat_append, hab, ← Nat.shiftLeft_add_eq_or_of_lt hlt, Nat.shiftLeft_eq]

/-- The kind is the word's quotient by 2^13 (R80). -/
theorem kindField_toNat (w : Word) : (kindField w).toNat = w.toNat / 8192 := by
  rw [kindField, BitVec.extractLsb'_toNat, Nat.shiftRight_eq_div_pow]
  exact Nat.mod_eq_of_lt (by omega)

theorem aField_eq (w : Word) : aField w = w.toNat / 256 % 32 := by
  rw [aField, BitVec.extractLsb'_toNat, Nat.shiftRight_eq_div_pow]

theorem bField_eq (w : Word) : bField w = w.toNat % 256 := by
  rw [bField, bBits, BitVec.extractLsb'_toNat, Nat.shiftRight_zero]

theorem bBits_eq (w : Word) : bBits w = BitVec.ofNat 8 w.toNat :=
  BitVec.eq_of_toNat_eq (bField_eq w)

theorem fitsA_aField (w : Word) : fitsA (aField w) = true :=
  decide_eq_true (w.extractLsb' 8 5).isLt

theorem fitsB_bField (w : Word) : fitsB (bField w) = true :=
  decide_eq_true (bBits w).isLt

/-! ### Decoding -/

/-- The rows of R81: the kind of a word `w` and the transaction it stands for. -/
inductive DecodeCase (w : Word) : Instr → Prop where
  | nop (hk : kindField w = 0) : DecodeCase w .nop
  | byteWrite (hk : kindField w = 1) : DecodeCase w (.byteWrite (aField w) (bBits w))
  | bytesReady (hk : kindField w = 2) : DecodeCase w (.bytesReady (aField w) (bField w))
  | bufferNeeded (hk : kindField w = 3) : DecodeCase w .bufferNeeded
  | bufferReleased (hk : kindField w = 4) : DecodeCase w .bufferReleased
  | receptionStopped (hk : kindField w = 5) : DecodeCase w .receptionStopped
  | receptionDisabled (hk : kindField w = 6) : DecodeCase w .receptionDisabled
  | rsv7 (hk : kindField w = 7) : DecodeCase w .rsv7

/-- Every word decodes by one of the rows (R83). -/
theorem decode_cases {w : Word} {i : Instr} (h : decode w = i) : DecodeCase w i := by
  subst h
  have hlt := (kindField w).isLt
  unfold decode
  split
  next hk => exact .nop (BitVec.eq_of_toNat_eq hk)
  next hk => exact .byteWrite (BitVec.eq_of_toNat_eq hk)
  next hk => exact .bytesReady (BitVec.eq_of_toNat_eq hk)
  next hk => exact .bufferNeeded (BitVec.eq_of_toNat_eq hk)
  next hk => exact .bufferReleased (BitVec.eq_of_toNat_eq hk)
  next hk => exact .receptionStopped (BitVec.eq_of_toNat_eq hk)
  next hk => exact .receptionDisabled (BitVec.eq_of_toNat_eq hk)
  next =>
    simp only [imp_false] at *
    exact .rsv7 (BitVec.eq_of_toNat_eq (show (kindField w).toNat = 7 by omega))

/-- A kind-1 word is a byte write of its fields (R81). -/
theorem decode_byteWrite {w : Word} (h : kindField w = 1) : decode w = .byteWrite (aField w) (bBits w) := by
  simp [decode, h]

/-- A kind-2 word is a burst end of its fields (R81). -/
theorem decode_bytesReady {w : Word} (h : kindField w = 2) : decode w = .bytesReady (aField w) (bField w) := by
  simp [decode, h]

/-- Settles O6: the words are closed terms, which the decoder evaluates. -/
theorem writtenOutWordsDecode : Obligations.WrittenOutWordsDecode := by
  unfold Obligations.WrittenOutWordsDecode
  decide

/-- Settles O1: each operand is read back from the field it was put in; the transactions without operands are one word
each. -/
theorem decodeOfEncodeIsIdentity : Obligations.DecodeOfEncodeIsIdentity := by
  intro i hwf
  cases i with
  | byteWrite idx data =>
    have hidx : fitsA idx = true := hwf
    rw [encode, decode_byteWrite (kindField_wordOf ..), aField_wordOf _ _ hidx, bBits_wordOf]
  | bytesReady offset length =>
    obtain ⟨hoffset, hlength⟩ : fitsA offset = true ∧ fitsB length = true := Bool.and_eq_true_iff.mp hwf
    rw [encode, decode_bytesReady (kindField_wordOf ..), aField_wordOf _ _ hoffset, bField_wordOf _ _ hlength]
  | nop | bufferNeeded | bufferReleased | receptionStopped | receptionDisabled | rsv7 => decide

/-- What a word decodes to is well-formed: its fields hold no other operands (R82). -/
theorem decode_wellFormed (w : Word) : (decode w).wellFormed = true := by
  generalize h : decode w = i
  cases decode_cases h with
  | byteWrite => exact fitsA_aField w
  | bytesReady => exact Bool.and_eq_true_iff.mpr ⟨fitsA_aField w, fitsB_bField w⟩
  | nop | bufferNeeded | bufferReleased | receptionStopped | receptionDisabled | rsv7 => rfl

/-- Settles O2: a word of kind 1 or 2 decodes to its fields, and each field is its quotient and remainder of the word. -/
theorem operandsAreTheWordsFields : Obligations.OperandsAreTheWordsFields := by
  intro w
  refine ⟨decode_wellFormed w, fun h => ?_, fun h => ?_⟩
  · rw [decode_byteWrite (BitVec.eq_of_toNat_eq ((kindField_toNat w).trans h)), aField_eq, bBits_eq]
  · rw [decode_bytesReady (BitVec.eq_of_toNat_eq ((kindField_toNat w).trans h)), aField_eq, bField_eq]

/-! ### The row of a word -/

/-- A word under the mask of R81 is the bare word of its kind. -/
theorem and_rowMask (w : Word) : w &&& rowMask = wordOf (kindField w) 0 0 :=
  calc w &&& rowMask
      = wordOf (kindField w) (aField w) (bBits w) &&& rowMask := by rw [wordOf_fields]
    _ = wordOf (kindField w) 0 0 := wordOf_and_rowMask ..

/-- Of the eight rows of R81, only that of the word's kind matches. -/
theorem and_rowMask_eq_iff (w : Word) (k : Fin 8) :
    w &&& rowMask = BitVec.ofNat 16 (k.val * 0x2000) ↔ (kindField w).toNat = k.val := by
  rw [and_rowMask, ← BitVec.toNat_inj, toNat_wordOf, BitVec.toNat_ofNat, show (0 : Byte).toNat = 0 from rfl]
  omega

/-- The row that matches a word is that of the transaction it decodes to (R83). -/
theorem and_rowMask_eq_rowMatch_decode (w : Word) : w &&& rowMask = rowMatch (decode w) := by
  rw [and_rowMask]
  generalize h : decode w = i
  cases decode_cases h with
  | nop hk | byteWrite hk | bytesReady hk | bufferNeeded hk | bufferReleased hk | receptionStopped hk
  | receptionDisabled hk | rsv7 hk => rw [hk]; rfl

/-- Settles O3: a row matches under the mask exactly if its number is the kind of the word. -/
theorem everyWordSelectsExactlyOneRow : Obligations.EveryWordSelectsExactlyOneRow := by
  intro w
  refine ⟨⟨(kindField w).toFin, (and_rowMask_eq_iff w _).mpr rfl, fun k hk => ?_⟩,
    and_rowMask_eq_rowMatch_decode w, Machine.exec_answers_next (decode w)⟩
  exact Fin.ext ((and_rowMask_eq_iff w k).mp hk).symm

/-- Settles O4: where both operand fields are read they rebuild the word; elsewhere the canonical word is the bare kind,
which is what the mask leaves. -/
theorem encodeOfDecodeClearsIgnoredBits : Obligations.EncodeOfDecodeClearsIgnoredBits := by
  intro w
  rw [← kindField_toNat]
  change _ = if _ then w else w &&& rowMask
  generalize h : decode w = i
  cases decode_cases h with
  | byteWrite hk =>
    rw [if_pos (.inl (congrArg BitVec.toNat hk)), encode, ← hk, wordOf_fields]
  | bytesReady hk =>
    rw [if_pos (.inr (congrArg BitVec.toNat hk)), encode, ← hk, bField, BitVec.ofNat_toNat, BitVec.setWidth_eq,
      wordOf_fields]
  | nop hk | bufferNeeded hk | bufferReleased hk | receptionStopped hk | receptionDisabled hk | rsv7 hk =>
    rw [if_neg (by rw [hk]; decide), and_rowMask, hk]; rfl

end Sys2Proof
end

section
/-! PROOFS. The wire frame: its bytes determine its bits, the fields are slices of those bits, packing and slicing are inverse,
and the unused bits belong to no field (R34, R86, R87, R183). -/

namespace Sys2Proof.Machine

/-! ### Zero-centring -/

/-- The zero-centring subtracts 1024 modulo 2^11 (R166). -/
theorem center11_eq_sub (raw : BitVec 11) : center11 raw = raw - 1024#11 := by
  rw [center11, Int.sub_eq_add_neg, BitVec.ofInt_add, BitVec.ofInt_natCast, BitVec.ofNat_toNat, BitVec.setWidth_eq,
    BitVec.sub_eq_add_neg]
  rfl

/-- The raw field of a zero-centred value adds 1024 modulo 2^11 (R183). -/
theorem uncenter11_eq_add (v : BitVec 11) : uncenter11 v = v + 1024#11 := by
  rw [uncenter11, BitVec.ofInt_add, BitVec.ofInt_toInt]
  rfl

@[simp] theorem center11_uncenter11 (v : BitVec 11) : center11 (uncenter11 v) = v := by
  rw [center11_eq_sub, uncenter11_eq_add, BitVec.add_sub_cancel]

@[simp] theorem uncenter11_center11 (raw : BitVec 11) : uncenter11 (center11 raw) = raw := by
  rw [center11_eq_sub, uncenter11_eq_add, BitVec.sub_add_cancel]

/-! ### The frame by its bytes -/

/-- A bit of a frame stands in the byte of its index divided by 8 (R34). -/
theorem getLsbD_eq_frameByte (w : BitVec 144) (j : Nat) : w.getLsbD j = (frameByte w (j / 8)).getLsbD (j % 8) := by
  rw [frameByte, BitVec.getLsbD_extractLsb', decide_eq_true (Nat.mod_lt j (by decide)), Bool.true_and, Nat.div_add_mod]

/-- The 18 bytes of a frame determine its 144 bits. -/
theorem eq_of_frameByte_eq {v w : BitVec 144} (h : ∀ i, i < 18 → frameByte v i = frameByte w i) : v = w := by
  refine BitVec.eq_of_getLsbD_eq fun j hj => ?_
  rw [getLsbD_eq_frameByte v, getLsbD_eq_frameByte w, h (j / 8) (by omega)]

/-- A buffer that holds the bytes of a frame shows that frame. -/
theorem frameBits_eq_of_read {f : Memory} {w : BitVec 144} (h : ∀ i, i < 18 → f.read i = frameByte w i) :
    f.frameBits = w :=
  eq_of_frameByte_eq fun i hi => (frameBits_byte f hi).trans (h i hi)

/-! ### Slicing and packing -/

/-- The fields of R86 cut out of the 144 bits of a frame, at the bit positions of its table. -/
def fieldsOf (w : BitVec 144) : FrameFields where
  ch0 := center11 (w.extractLsb' 0 11)
  ch1 := center11 (w.extractLsb' 11 11)
  ch2 := center11 (w.extractLsb' 22 11)
  ch3 := center11 (w.extractLsb' 33 11)
  s1 := w.extractLsb' 46 2
  s2 := w.extractLsb' 44 2
  vx := w.extractLsb' 48 16
  vy := w.extractLsb' 64 16
  vz := w.extractLsb' 80 16
  btn0 := w.getLsbD 96
  btn1 := w.getLsbD 104
  keys := w.extractLsb' 112 16
  wheel := center11 (w.extractLsb' 128 11)

/-- A one-bit slice is its bit. -/
theorem ofBool_getLsbD (w : BitVec 144) (i : Nat) : BitVec.ofBool (w.getLsbD i) = w.extractLsb' i 1 := by
  rw [BitVec.getLsbD_eq_extractLsb']
  generalize w.extractLsb' i 1 = b
  decide +revert

/-- The bit of a one-bit slice. -/
theorem ofBool_beq_one (b : Bool) : (BitVec.ofBool b == 1#1) = b := by
  cases b <;> rfl

/-- The extraction reads the buffer at the bit positions of R86: both sides come down to the same bits of the same bytes. -/
theorem extractFields_eq_fieldsOf (f : Memory) : extractFields f = fieldsOf f.frameBits := by
  simp (disch := decide) only [extractFields, channel, rawCh, s1Raw, s2Raw, velocity, button, keysOf, wheelOf, rawWheel,
    fieldsOf, Memory.frameBits, Memory.window, Memory.pair, BitVec.getLsbD_eq_extractLsb',
    BitVec.extractLsb'_append_eq_of_add_le, BitVec.extractLsb'_append_eq_of_le]
  simp only [Nat.reduceAdd, Nat.reduceMul, Nat.reduceSub, BitVec.extractLsb'_eq_self]

/-- Each field is found where the packing puts it, whatever the unused bits (R183): what is packed above and below it is
cut off. -/
theorem fieldsOf_packFrame (x : FrameFields) (u12 u13 : BitVec 7) (u17 : BitVec 5) :
    fieldsOf (packFrame x u12 u13 u17) = x := by
  simp (disch := decide) only [fieldsOf, packFrame, packWindow, BitVec.getLsbD_eq_extractLsb',
    BitVec.extractLsb'_append_eq_of_add_le, BitVec.extractLsb'_append_eq_of_le]
  simp only [Nat.reduceAdd, Nat.reduceSub, BitVec.extractLsb'_eq_self, center11_uncenter11, ofBool_beq_one]

/-- Packing the fields of a frame beside its unused bits puts every bit back in its place (R87): adjacent slices join. -/
theorem packFrame_fieldsOf (w : BitVec 144) :
    packFrame (fieldsOf w) (w.extractLsb' 97 7) (w.extractLsb' 105 7) (w.extractLsb' 139 5) = w := by
  simp (disch := decide) only [packFrame, fieldsOf, packWindow, uncenter11_center11, ofBool_getLsbD,
    BitVec.extractLsb'_append_extractLsb'_eq_extractLsb']
  exact BitVec.extractLsb'_eq_self

/-- Settles O51: the buffer shows the packed frame, out of which each field is cut. -/
theorem packedFrameExtractsToItsFields : Obligations.PackedFrameExtractsToItsFields := by
  intro x u12 u13 u17 f hbytes
  rw [extractFields_eq_fieldsOf, frameBits_eq_of_read hbytes, fieldsOf_packFrame]

/-- A slice of a byte of the buffer is a slice of the frame (R34). -/
theorem read_slice (f : Memory) {i k n : Nat} (hi : i < 18) (hk : k + n ≤ 8) :
    (f.read i).extractLsb' k n = f.frameBits.extractLsb' (8 * i + k) n := by
  rw [← frameBits_byte f hi]
  ext j hj
  simp only [BitVec.getElem_extractLsb', BitVec.getLsbD_extractLsb']
  rw [decide_eq_true (by omega), Bool.true_and, Nat.add_assoc]

/-- Settles O52: the unused bits are slices of the frame too, and the slices are all of it. -/
theorem everyFrameIsThePackingOfItsFields : Obligations.EveryFrameIsThePackingOfItsFields := by
  intro f
  rw [extractFields_eq_fieldsOf]
  simp (disch := decide) only [read_slice]
  exact (packFrame_fieldsOf f.frameBits).symm

/-! ### The unused bits -/

/-- A pair depends on its two bytes alone (R63). -/
theorem pair_congr {f g : Memory} {i : Nat} (hlow : f.read i = g.read i) (hhigh : f.read (i + 1) = g.read (i + 1)) :
    f.pair i = g.pair i := by
  rw [Memory.pair, Memory.pair, hlow, hhigh]

/-- The wheel reads byte 16 and the low three bits of byte 17 (R178). -/
theorem rawWheel_eq (f : Memory) : rawWheel f = (f.read 17).extractLsb' 0 3 ++ f.read 16 := by
  ext j hj
  rw [rawWheel, Memory.pair, BitVec.getElem_extractLsb', BitVec.getElem_append, BitVec.getLsbD_append, Nat.zero_add]
  by_cases hlow : j < 8
  · simp [hlow]
  · simp [hlow]

/-- Settles O53: every field reads whole bytes below 12 or of 14 to 16, or the named bits of the three others. -/
theorem unusedFrameBitsAffectNoField : Obligations.UnusedFrameBitsAffectNoField := by
  intro f g hread h12 h13 h17
  have hpair (i : Nat) (hi : i + 1 < 12 ∨ i = 14) : f.pair i = g.pair i :=
    pair_congr (hread i (by omega) (by omega) (by omega) (by omega))
      (hread (i + 1) (by omega) (by omega) (by omega) (by omega))
  have hwindow : f.window = g.window := by
    rw [Memory.window, Memory.window, hpair 4 (by decide), hpair 2 (by decide), hpair 0 (by decide)]
  have hchannel (n : Nat) : channel f n = channel g n := by rw [channel, channel, rawCh, rawCh, hwindow]
  have hswitches : f.read 5 = g.read 5 := hread 5 (by decide) (by decide) (by decide) (by decide)
  have hwheel : wheelOf f = wheelOf g := by
    rw [wheelOf, wheelOf, rawWheel_eq, rawWheel_eq, h17, hread 16 (by decide) (by decide) (by decide) (by decide)]
  simp (disch := decide) only [extractFields, hchannel, s1Raw, s2Raw, hswitches, velocity, keysOf, hpair, button, h12,
    h13, hwheel]

end Sys2Proof.Machine
end

section
/-! PROOFS. A queued sample: a transaction leaves the queue to the clock edge (R31, R110) and reads of it the arm result alone
(R33), so that the ignored bits of a word have no effect (R82); and the state codes (R89). -/

namespace Sys2Proof.Machine

/-! ### The state codes -/

/-- Settles O37: each code is a case of `AsmState.code`, and the codes from 5 on fall to the last case of its inverse. -/
theorem stateCodesOfR89 : Obligations.StateCodesOfR89 := by
  refine ⟨rfl, rfl, rfl, rfl, rfl, fun x => by cases x <;> rfl, ?_⟩
  decide

/-! ### The queue across a transaction -/

@[simp] theorem arm_inputs (s : State) : s.arm.inputs = s.inputs := by rw [arm_eq]

@[simp] theorem rearm_inputs (s : State) : s.rearm.inputs = s.inputs := by
  cases hp : s.cfg.policy with
  | doubleBuffer => rw [rearm_doubleBuffer hp, arm_inputs]
  | singleShot => rw [rearm_singleShot hp, stop_inputs]

@[simp] theorem resupply_inputs (s : State) : s.resupply.inputs = s.inputs := by
  cases hp : s.cfg.policy with
  | doubleBuffer => rw [resupply_doubleBuffer hp, arm_inputs]
  | singleShot => rw [resupply_singleShot hp]

/-- No transaction consumes a sample: the end of the edge does (R110). -/
theorem exec_inputs {i : Instr} {s t : State} (h : exec i s = .next t) : t.inputs = s.inputs := by
  cases exec_cases h <;> simp

/-- The end of an edge drops the sample it took. -/
theorem advance_of_cons {s : State} {inp : Input} {rest : List Input} (h : s.inputs = inp :: rest) :
    s.advance = s.withQueue rest := by
  simp [State.advance, State.withQueue, h]

/-- An edge on a queued sample runs its transaction and drops it (R110). -/
theorem step_of_queued {s t : State} {inp : Input} {rest : List Input} (hq : s.inputs = inp :: rest)
    (hr : inp.rst = false) (he : exec inp.instr s = .next t) : step s = .next (t.withQueue rest) := by
  have hinp : s.nextInput = inp := nextInput_cons hq
  rw [← advance_of_cons ((exec_inputs he).trans hq)]
  exact step_of_exec (by rw [hinp, hr]) (by rw [hinp]; exact he)

/-! ### Another queue with the same arm result -/

theorem arm_withQueue {s : State} {queue : List Input} (h : (s.withQueue queue).armOk = s.armOk) :
    (s.withQueue queue).arm = s.arm.withQueue queue := by
  rw [arm_eq, arm_eq, h]
  rfl

theorem rearm_withQueue {s : State} {queue : List Input} (h : (s.withQueue queue).armOk = s.armOk) :
    (s.withQueue queue).rearm = s.rearm.withQueue queue := by
  cases hp : s.cfg.policy with
  | doubleBuffer => rw [rearm_doubleBuffer hp, rearm_doubleBuffer (s := s.withQueue queue) hp, arm_withQueue h]
  | singleShot => rw [rearm_singleShot hp, rearm_singleShot (s := s.withQueue queue) hp]; rfl

theorem resupply_withQueue {s : State} {queue : List Input} (h : (s.withQueue queue).armOk = s.armOk) :
    (s.withQueue queue).resupply = s.resupply.withQueue queue := by
  cases hp : s.cfg.policy with
  | doubleBuffer => rw [resupply_doubleBuffer hp, resupply_doubleBuffer (s := s.withQueue queue) hp, arm_withQueue h]
  | singleShot => rw [resupply_singleShot hp, resupply_singleShot (s := s.withQueue queue) hp]

@[simp] theorem endBurst_armOk (s : State) (offset length : Nat) : (s.endBurst offset length).armOk = s.armOk := by
  by_cases hv : offset = 0 ∧ length = 18
  · rw [endBurst_valid _ hv, decodeFrame_armOk, strobeFrameValid_armOk]
  · rw [endBurst_invalid _ hv, raiseTruncatedFrame_armOk]

/-- The dispatch carries another queue along if what it does in `RECEIVING` and in `STOPPING` does. -/
theorem perState_withQueue {s : State} {queue : List Input} (h : (s.withQueue queue).armOk = s.armOk)
    {r p : State → State} (hr : r (s.beginStep.withQueue queue) = (r s.beginStep).withQueue queue)
    (hp : p (s.beginStep.withQueue queue) = (p s.beginStep).withQueue queue) :
    (s.withQueue queue).perState r p = (s.perState r p).withQueue queue := by
  obtain ⟨hs, he⟩ | ⟨hs, he⟩ | ⟨hs, he⟩ := perState_cases s r p
  · rw [he, ← hr]; exact perState_receiving r p hs
  · rw [he, ← hp]; exact perState_stopping r p hs
  · rw [he, ← arm_withQueue (s := s.beginStep) h]; exact perState_unlent r p hs

/-- A transaction reads of the queue the arm result alone (R33): on another queue with the same arm result it leaves the
same state, but for that queue. -/
theorem exec_withQueue {s : State} {queue : List Input} (h : (s.withQueue queue).armOk = s.armOk) {i : Instr} {t : State}
    (he : exec i s = .next t) : exec i (s.withQueue queue) = .next (t.withQueue queue) := by
  have dispatch {r p : State → State} (ht : exec i s = .next (s.perState r p))
      (ht' : exec i (s.withQueue queue) = .next ((s.withQueue queue).perState r p))
      (hr : r (s.beginStep.withQueue queue) = (r s.beginStep).withQueue queue)
      (hp : p (s.beginStep.withQueue queue) = (p s.beginStep).withQueue queue) :
      exec i (s.withQueue queue) = .next (t.withQueue queue) := by
    obtain rfl := Host.Outcome.next.inj (ht.symm.trans he)
    rw [ht', perState_withQueue h hr hp]
  have harm : (s.beginStep.withQueue queue).arm = s.beginStep.arm.withQueue queue := arm_withQueue h
  cases i with
  | nop | bufferReleased | rsv7 | byteWrite idx data => exact dispatch rfl rfl rfl rfl
  | bytesReady offset length =>
    have hburst : (s.beginStep.endBurst offset length).armOk = s.armOk := endBurst_armOk ..
    have hburst' : ((s.beginStep.endBurst offset length).withQueue queue).armOk = (s.withQueue queue).armOk := by
      rw [← endBurst_withQueue]
      exact endBurst_armOk ..
    refine dispatch rfl rfl ?_ rfl
    rw [endBurst_withQueue]
    exact rearm_withQueue (hburst'.trans (h.trans hburst.symm))
  | bufferNeeded => exact dispatch rfl rfl (resupply_withQueue (s := s.beginStep) h) rfl
  | receptionStopped | receptionDisabled =>
    exact dispatch rfl rfl (arm_withQueue (s := s.beginStep.raiseTruncatedFrame) h) harm

/-- Two samples of one transaction and one arm result make the same step. -/
theorem step_eq_of_instr_eq (s : State) {a b : Input} (rest : List Input) (ha : a.rst = false) (hb : b.rst = false)
    (hi : a.instr = b.instr) (hok : a.armOk = b.armOk) :
    step (s.withQueue (a :: rest)) = step (s.withQueue (b :: rest)) := by
  obtain ⟨t, he⟩ := exec_answers_next b.instr (s.withQueue (b :: rest))
  have he' : exec a.instr (s.withQueue (a :: rest)) = .next (t.withQueue (a :: rest)) := by
    rw [hi]
    exact exec_withQueue (s := s.withQueue (b :: rest)) (queue := a :: rest) hok he
  rw [step_of_queued rfl ha he', step_of_queued rfl hb he]
  rfl

/-- Words of one kind without operands decode alike (R82): their canonical words are one. -/
theorem decode_eq_of_ignored {w v : Word} (hk : w.toNat / 8192 = v.toNat / 8192) (h1 : w.toNat / 8192 ≠ 1)
    (h2 : w.toNat / 8192 ≠ 2) : decode w = decode v := by
  have canonical (u : Word) (hu : u.toNat / 8192 = w.toNat / 8192) : decode u = decode (wordOf (kindField w) 0 0) := by
    have hkind : kindField u = kindField w := BitVec.eq_of_toNat_eq (by rw [kindField_toNat, kindField_toNat, hu])
    calc decode u
        = decode (encode (decode u)) := (decodeOfEncodeIsIdentity _ (decode_wellFormed u)).symm
      _ = decode (u &&& rowMask) := by
        rw [encodeOfDecodeClearsIgnoredBits, if_neg (by omega)]; rfl
      _ = decode (wordOf (kindField w) 0 0) := by rw [and_rowMask, hkind]
  rw [canonical w rfl, canonical v hk.symm]

/-- Settles O5: the words are one transaction, and the step reads nothing else of a word. -/
theorem ignoredBitsHaveNoEffect : Obligations.IgnoredBitsHaveNoEffect := by
  intro w v hk h1 h2
  have hdecode : decode w = decode v := decode_eq_of_ignored hk h1 h2
  exact ⟨hdecode, fun s ok rest => step_eq_of_instr_eq s rest rfl rfl hdecode rfl⟩

end Sys2Proof.Machine
end

section
/-! PROOFS. The textual lines: the words of the forms that have operands (R90), and the expansion of the
pseudo-transactions, sample by sample (R91). -/

namespace Sys2Proof.Machine

/-! ### The samples of a line -/

/-- A line whose operands are in range stands for the samples of its words. -/
theorem samples_of_wellFormed {l : AsmLine} (h : l.wellFormed = true) (ok : Bool) :
    l.samples ok = some (samplesOf l.words ok) :=
  if_pos h

/-- An operand out of range is an assembly error (R90). -/
theorem samples_of_not_wellFormed {l : AsmLine} (h : ¬l.wellFormed = true) (ok : Bool) : l.samples ok = none :=
  if_neg h

/-! ### The forms with operands -/

/-- The word of a byte write (the table of R90). -/
theorem encode_byteWrite_eq {idx data : Nat} (hidx : idx < 32) (hdata : data < 256) :
    encode (.byteWrite idx (BitVec.ofNat 8 data)) = BitVec.ofNat 16 (0x2000 + idx * 256 + data) := by
  apply BitVec.eq_of_toNat_eq
  rw [encode, toNat_wordOf, BitVec.toNat_ofNat, BitVec.toNat_ofNat, show (1 : BitVec 3).toNat = 1 from rfl]
  omega

/-- The word of a burst end (the table of R90). -/
theorem encode_bytesReady_eq {offset length : Nat} (hoffset : offset < 32) (hlength : length < 256) :
    encode (.bytesReady offset length) = BitVec.ofNat 16 (0x4000 + offset * 256 + length) := by
  apply BitVec.eq_of_toNat_eq
  rw [encode, toNat_wordOf, BitVec.toNat_ofNat, BitVec.toNat_ofNat, show (2 : BitVec 3).toNat = 2 from rfl]
  omega

/-- A byte write whose data operand is a byte is in range if its index fits its field. -/
theorem samples_byteWrite {idx data : Nat} (hdata : data < 256) (ok : Bool) :
    (AsmLine.plain (.byteWrite idx (BitVec.ofNat 8 data))).samples ok
      = if idx < 32 then some [⟨false, BitVec.ofNat 16 (0x2000 + idx * 256 + data), ok⟩] else none := by
  by_cases hidx : idx < 32
  · have hwf : (AsmLine.plain (.byteWrite idx (BitVec.ofNat 8 data))).wellFormed = true := decide_eq_true hidx
    rw [samples_of_wellFormed hwf, if_pos hidx, ← encode_byteWrite_eq hidx hdata]
    rfl
  · rw [samples_of_not_wellFormed (mt of_decide_eq_true hidx), if_neg hidx]

/-- A burst end is in range if offset and length fit their fields. -/
theorem samples_bytesReady (offset length : Nat) (ok : Bool) :
    (AsmLine.plain (.bytesReady offset length)).samples ok
      = if offset < 32 ∧ length < 256 then some [⟨false, BitVec.ofNat 16 (0x4000 + offset * 256 + length), ok⟩]
        else none := by
  have hwf : (AsmLine.plain (.bytesReady offset length)).wellFormed = true ↔ offset < 32 ∧ length < 256 := by
    simp [AsmLine.wellFormed, Instr.wellFormed, fitsA, fitsB]
  by_cases h : offset < 32 ∧ length < 256
  · rw [samples_of_wellFormed (hwf.mpr h), if_pos h, ← encode_bytesReady_eq h.1 h.2]
    rfl
  · rw [samples_of_not_wellFormed (mt hwf.mp h), if_neg h]

/-- The data operand of `BYTE` is checked before it becomes a byte (R90). -/
theorem lineOf_byte (idx data : Nat) :
    lineOf "BYTE".toList [idx, data]
      = if data < 256 then some (.plain (.byteWrite idx (BitVec.ofNat 8 data))) else none := by
  simp [lineOf, isByte]

/-- Settles O59: the ranges of the operands are those of their lines, and the forms without operands are closed. -/
theorem syntaxFormsAssembleToTheirWords : Obligations.SyntaxFormsAssembleToTheirWords := by
  refine ⟨fun idx data => ?_, fun offset length => samples_bytesReady offset length true, fun v => ?_,
    rfl, rfl, rfl, rfl, rfl, rfl⟩
  · rw [lineOf_byte]
    by_cases hdata : data < 256
    · rw [if_pos hdata, Option.bind_some, samples_byteWrite hdata]
      simp [hdata]
    · simp [hdata]
  · have hline : lineOf ".word".toList [v] = some (.word v) := rfl
    by_cases hv : v < 65536
    · have hwf : (AsmLine.word v).wellFormed = true := decide_eq_true hv
      rw [hline, Option.bind_some, samples_of_wellFormed hwf, if_pos hv]
      rfl
    · rw [hline, Option.bind_some, samples_of_not_wellFormed (mt of_decide_eq_true hv), if_neg hv]

/-! ### The pseudo-transactions -/

/-- The samples of some words, every one `/ok` (R16). -/
def okSamples (ws : List Word) : List Input := ws.map (⟨false, ·, true⟩)

@[simp] theorem okSamples_length (ws : List Word) : (okSamples ws).length = ws.length := List.length_map _

theorem okSamples_getElem? (ws : List Word) (j : Nat) : (okSamples ws)[j]? = ws[j]?.map (⟨false, ·, true⟩) :=
  List.getElem?_map

/-- The suffix of a line goes to its last sample alone (R91). -/
theorem samplesOf_append_singleton (ws : List Word) (w : Word) (ok : Bool) :
    samplesOf (ws ++ [w]) ok = okSamples ws ++ [⟨false, w, ok⟩] := by
  induction ws with
  | nil => rfl
  | cons v ws ih =>
    cases ws with
    | nil => rfl
    | cons u ws => exact congrArg _ ih

/-- The samples of a burst: its byte writes, each `/ok`, and its end with the suffix of the line (R91). -/
theorem samplesOf_burstWords (bytes : List Nat) (ok : Bool) :
    samplesOf (burstWords bytes) ok
      = okSamples (byteWords 0 bytes) ++ [⟨false, encode (.bytesReady 0 bytes.length), ok⟩] :=
  samplesOf_append_singleton ..

@[simp] theorem byteWords_length (i : Nat) (ds : List Nat) : (byteWords i ds).length = ds.length := by
  induction ds generalizing i with
  | nil => rfl
  | cons d ds ih => exact congrArg Nat.succ (ih (i + 1))

/-- Each byte of a burst is written at its own index, counted from the first (R91). -/
theorem byteWords_getElem? (i : Nat) (ds : List Nat) {j : Nat} (hj : j < ds.length) :
    (byteWords i ds)[j]? = some (encode (.byteWrite (i + j) (BitVec.ofNat 8 ds[j]))) := by
  induction ds generalizing i j with
  | nil => contradiction
  | cons d ds ih =>
    cases j with
    | zero => rfl
    | succ j =>
      rw [byteWords, List.getElem?_cons_succ, ih (i + 1) (Nat.lt_of_succ_lt_succ hj), Nat.add_right_comm]
      rfl

/-- The operand ranges of `BURST` (R91). -/
theorem burst_wellFormed_iff (bytes : List Nat) :
    (AsmLine.burst bytes).wellFormed = true
      ↔ 1 ≤ bytes.length ∧ bytes.length ≤ 32 ∧ ∀ d ∈ bytes, d < 256 := by
  simp only [AsmLine.wellFormed, isByte, Bool.and_eq_true, List.all_eq_true, decide_eq_true_eq, and_assoc]

/-- The operand ranges of `FRAME` (R91). -/
theorem frame_wellFormed_iff (bytes : List Nat) :
    (AsmLine.frame bytes).wellFormed = true ↔ bytes.length = 18 ∧ ∀ d ∈ bytes, d < 256 := by
  simp only [AsmLine.wellFormed, isByte, Bool.and_eq_true, List.all_eq_true, decide_eq_true_eq]
  rfl

/-- `BURST` by its samples (R91). -/
theorem burst_samples {bytes : List Nat} (ok : Bool) (hpos : 1 ≤ bytes.length) (hle : bytes.length ≤ 32)
    (hbytes : ∀ d ∈ bytes, d < 256) :
    ∃ l, (AsmLine.burst bytes).samples ok = some l ∧ l.length = bytes.length + 1
      ∧ (∀ i (h : i < bytes.length), l[i]? = some ⟨false, BitVec.ofNat 16 (0x2000 + i * 256 + bytes[i]), true⟩)
      ∧ l[bytes.length]? = some ⟨false, BitVec.ofNat 16 (0x4000 + bytes.length), ok⟩ := by
  have hwf := (burst_wellFormed_iff bytes).mpr ⟨hpos, hle, hbytes⟩
  refine ⟨_, (samples_of_wellFormed hwf ok).trans (congrArg some (samplesOf_burstWords bytes ok)), by simp,
    fun i hi => ?_, ?_⟩
  · rw [List.getElem?_append_left (by simpa using hi), okSamples_getElem?, byteWords_getElem? 0 bytes hi, Nat.zero_add,
      encode_byteWrite_eq (hi.trans_le hle) (hbytes _ (List.getElem_mem hi))]
    rfl
  · rw [List.getElem?_append_right (by simp), encode_bytesReady_eq (by decide) (by omega)]
    simp

/-- Settles O60: `FRAME` and `TRUNC` have the words of their `BURST`, so only the operand ranges are left to compare. -/
theorem pseudoTransactionsExpand : Obligations.PseudoTransactionsExpand := by
  intro bytes ok hpos hle hbytes
  refine ⟨burst_samples ok hpos hle hbytes, ?_, fun k => ?_⟩
  · by_cases hlen : bytes.length = 18
    · rw [if_pos hlen, samples_of_wellFormed ((frame_wellFormed_iff bytes).mpr ⟨hlen, hbytes⟩),
        samples_of_wellFormed ((burst_wellFormed_iff bytes).mpr ⟨hpos, hle, hbytes⟩)]
      rfl
    · rw [if_neg hlen, samples_of_not_wellFormed fun h => hlen ((frame_wellFormed_iff bytes).mp h).1]
  · by_cases hzero : k = 0
    · subst hzero
      rfl
    · by_cases hk : k < 18
      · have hburst : (AsmLine.burst (List.replicate k 0)).wellFormed = true := by
          rw [burst_wellFormed_iff, List.length_replicate]
          exact ⟨Nat.pos_of_ne_zero hzero, by omega, by simp⟩
        have htrunc : (AsmLine.trunc k).wellFormed = true := decide_eq_true hk
        rw [if_neg hzero, if_pos hk, samples_of_wellFormed htrunc, samples_of_wellFormed hburst]
        rfl
      · rw [if_neg hzero, if_neg hk, samples_of_not_wellFormed (mt of_decide_eq_true hk)]

end Sys2Proof.Machine
end

section
/-! PROOFS. A burst into a lent buffer: a run over filling transactions leaves the bytes last written (R116), the burst end
accepts and decodes them (R118), and a whole `FRAME` is such a run (R91, R134). -/

namespace Sys2Proof.Machine

/-! ### Runs -/

/-- A run of one step more, from the state the first step leaves. -/
theorem run_succ {s t : State} (h : step s = .next t) (n : Nat) :
    Host.Core.run Sys2Proof.core (n + 1) s = Host.Core.run Sys2Proof.core n t := by
  have hcore : Sys2Proof.core.step s = .next t := h
  simp only [Host.Core.run, hcore]

/-- A run goes on from the state it has reached. -/
theorem run_add {s t : State} {m : Nat} (h : Host.Core.run Sys2Proof.core m s = .next t) (n : Nat) :
    Host.Core.run Sys2Proof.core (m + n) s = Host.Core.run Sys2Proof.core n t := by
  induction m generalizing s with
  | zero =>
    obtain rfl : s = t := Host.Outcome.next.inj h
    rw [Nat.zero_add]
  | succ m ih =>
    obtain ⟨u, hu⟩ := everyStepAnswersNext.1 s
    rw [run_succ hu] at h
    rw [Nat.add_right_comm, run_succ hu, ih h]

/-! ### Filling the buffer -/

/-- The bytes last written, one transaction at a time. -/
theorem lastWritten_cons (a : Nat) (v : Byte) (i : Instr) (l : List Instr) :
    lastWritten a v (i :: l) = lastWritten a (lastWritten a v [i]) l := by
  cases i <;> rfl

/-- A filling transaction in `RECEIVING` changes nothing but the byte it writes (R115, R116, R122, R125). -/
theorem exec_filling {i : Instr} {s : State} (hi : isFilling i = true) (hs : s.st = .receiving) (hwf : s.fb.wf = true) :
    ∃ t, exec i s = .next t ∧ t.st = .receiving ∧ t.fb.wf = true ∧ t.cfg = s.cfg ∧ SameControl s t
      ∧ ∀ a, t.fb.read a = lastWritten a (s.fb.read a) [i] := by
  have quiet : s.perState State.skip State.skip = s.beginStep := perState_receiving _ _ hs
  cases i with
  | nop | bufferReleased | rsv7 =>
    exact ⟨s.beginStep, congrArg Host.Outcome.next quiet, hs, hwf, rfl, ⟨rfl, rfl, rfl⟩, fun _ => rfl⟩
  | byteWrite idx data =>
    have hlent : s.st.lent = true := by rw [hs]; rfl
    refine ⟨s.beginStep.writeByte idx data, exec_byteWrite_of_lent hlent idx data, hs,
      writeByte_wf (s := s.beginStep) idx data hwf, rfl, ⟨rfl, rfl, rfl⟩, fun a => ?_⟩
    exact (writeByte_read (s := s.beginStep) idx data hwf a).trans (if_congr (and_congr_left fun _ => eq_comm) rfl rfl)
  | bytesReady | bufferNeeded | receptionStopped | receptionDisabled => contradiction

/-- A run over filling transactions stays in `RECEIVING` and leaves at each index the byte last written there (R116). -/
theorem run_filling {fills rest : List Input} {s : State} (hwf : s.fb.wf = true) (hs : s.st = .receiving)
    (hq : s.inputs = fills ++ rest) (hr : NoReset fills) (hf : ∀ inp ∈ fills, isFilling inp.instr = true) :
    ∃ t : State, Host.Core.run Sys2Proof.core fills.length s = .next t ∧ t.st = .receiving ∧ t.inputs = rest ∧ t.cfg = s.cfg
      ∧ SameControl s t ∧ ∀ a, t.fb.read a = lastWritten a (s.fb.read a) (fills.map Input.instr) := by
  induction fills generalizing s with
  | nil => exact ⟨s, rfl, hs, hq, rfl, ⟨rfl, rfl, rfl⟩, fun _ => rfl⟩
  | cons inp fills ih =>
    obtain ⟨hinp, hr⟩ := List.forall_mem_cons.mp hr
    obtain ⟨hfill, hf⟩ := List.forall_mem_cons.mp hf
    obtain ⟨u, he, hus, huwf, hucfg, ⟨hucs, hucnt1, hucnt2⟩, huread⟩ := exec_filling hfill hs hwf
    have hstep : step s = .next (u.withQueue (fills ++ rest)) := step_of_queued hq hinp he
    obtain ⟨t, hrun, hts, htq, htcfg, ⟨htcs, htcnt1, htcnt2⟩, htread⟩ :=
      ih (s := u.withQueue (fills ++ rest)) huwf hus rfl hr hf
    refine ⟨t, (run_succ hstep _).trans hrun, hts, htq, htcfg.trans hucfg,
      ⟨htcs.trans hucs, htcnt1.trans hucnt1, htcnt2.trans hucnt2⟩, fun a => ?_⟩
    rw [htread, List.map_cons, lastWritten_cons]
    exact congrArg (lastWritten a · _) (huread a)

/-! ### The burst end -/

@[simp] theorem arm_frameValid (s : State) : s.arm.out.frameValid = s.out.frameValid := by rw [arm_eq]

@[simp] theorem rearm_frameValid (s : State) : s.rearm.out.frameValid = s.out.frameValid := by
  cases hp : s.cfg.policy with
  | doubleBuffer => rw [rearm_doubleBuffer hp, arm_frameValid]
  | singleShot => rw [rearm_singleShot hp, stop_frameValid]

/-- The re-arm of a burst end keeps the registers and counters (R112, R113). -/
theorem rearm_sameControl (s : State) : SameControl s s.rearm := by
  cases hp : s.cfg.policy with
  | doubleBuffer => rw [rearm_doubleBuffer hp, arm_eq]; exact ⟨rfl, rfl, rfl⟩
  | singleShot => rw [rearm_singleShot hp]; exact ⟨rfl, rfl, rfl⟩

/-- A valid burst end in `RECEIVING` accepts and decodes the frame in the buffer (R118). -/
theorem exec_validBurst {s : State} (hs : s.st = .receiving) :
    ∃ t, exec (.bytesReady 0 18) s = .next t ∧ t.out.frameValid = true ∧ t.fb = s.fb ∧ DecodedFrom s s.fb t := by
  have he : exec (.bytesReady 0 18) s = .next s.beginStep.strobeFrameValid.decodeFrame.rearm :=
    congrArg Host.Outcome.next (perState_receiving _ _ hs)
  obtain ⟨hcs, hcnt1, hcnt2⟩ := rearm_sameControl s.beginStep.strobeFrameValid.decodeFrame
  refine ⟨_, he, by simp, by simp, decodedFrom_iff.mpr ?_⟩
  rw [hcs, hcnt1, hcnt2]
  exact ⟨rfl, rfl, rfl⟩

/-- The frame a valid burst end accepts after filling transactions is the bytes last written (R116, R118). -/
theorem run_filling_validBurst {fills rest : List Input} {ready : Input} {s : State} (hwf : s.fb.wf = true)
    (hs : s.st = .receiving) (hq : s.inputs = fills ++ ready :: rest) (hr : NoReset (fills ++ [ready]))
    (hf : ∀ inp ∈ fills, isFilling inp.instr = true) (hready : ready.instr = .bytesReady 0 18) :
    ∃ t : State, Host.Core.run Sys2Proof.core (fills.length + 1) s = .next t ∧ t.out.frameValid = true ∧ t.inputs = rest
      ∧ (∀ i, t.fb.read i = lastWritten i (s.fb.read i) (fills.map Input.instr)) ∧ DecodedFrom s t.fb t := by
  obtain ⟨hrf, hrr⟩ := List.forall_mem_append.mp hr
  obtain ⟨u, hrun, hus, huq, hucfg, ⟨hucs, hucnt1, hucnt2⟩, huread⟩ := run_filling hwf hs hq hrf hf
  obtain ⟨t, he, hvalid, hfb, hdec⟩ := exec_validBurst hus
  have hstep : step u = .next (t.withQueue rest) :=
    step_of_queued huq (hrr ready (List.mem_singleton_self ready)) (by rw [hready]; exact he)
  refine ⟨t.withQueue rest, ?_, hvalid, rfl, fun i => (congrArg (Memory.read · i) hfb).trans (huread i), ?_⟩
  · rw [run_add hrun, run_succ hstep]
    rfl
  · rw [decodedFrom_iff, hucfg, hucs, hucnt1, hucnt2, ← hfb] at hdec
    exact decodedFrom_iff.mpr hdec

/-! ### The byte writes of a burst -/

/-- The words of a burst decode to its byte writes. -/
theorem map_decode_byteWords_cons {i : Nat} (hi : i < 32) (d : Byte) (ds : List Byte) :
    (byteWords i ((d :: ds).map BitVec.toNat)).map decode
      = .byteWrite i d :: (byteWords (i + 1) (ds.map BitVec.toNat)).map decode := by
  have hhead : decode (encode (.byteWrite i (BitVec.ofNat 8 d.toNat))) = .byteWrite i d := by
    rw [decodeOfEncodeIsIdentity (.byteWrite i _) (decide_eq_true hi), BitVec.ofNat_toNat, BitVec.setWidth_eq]
  rw [List.map_cons, byteWords, List.map_cons, hhead]

/-- The byte writes of a burst only fill. -/
theorem isFilling_of_mem_byteWords {w : Word} {i : Nat} {ds : List Nat} (h : w ∈ byteWords i ds) :
    isFilling (decode w) = true := by
  induction ds generalizing i with
  | nil => contradiction
  | cons d ds ih =>
    obtain rfl | h := List.mem_cons.mp h
    · rw [encode, decode_byteWrite (kindField_wordOf ..)]
      rfl
    · exact ih h

/-- A burst writes nothing below its first index. -/
theorem lastWritten_byteWords_of_lt {k i : Nat} (hk : k < i) (v : Byte) (ds : List Byte) (hle : i + ds.length ≤ 32) :
    lastWritten k v ((byteWords i (ds.map BitVec.toNat)).map decode) = v := by
  induction ds generalizing i with
  | nil => rfl
  | cons d ds ih =>
    rw [List.length_cons] at hle
    rw [map_decode_byteWords_cons (by omega), lastWritten, if_neg (by omega)]
    exact ih (by omega) (by omega)

/-- A burst inside the buffer leaves byte `j` of its data at index `i + j`. -/
theorem lastWritten_byteWords {i j : Nat} (v : Byte) (ds : List Byte) (hle : i + ds.length ≤ 18) (hj : j < ds.length) :
    lastWritten (i + j) v ((byteWords i (ds.map BitVec.toNat)).map decode) = ds[j] := by
  induction ds generalizing i j v with
  | nil => contradiction
  | cons d ds ih =>
    rw [List.length_cons] at hle hj
    rw [map_decode_byteWords_cons (by omega), lastWritten]
    cases j with
    | zero =>
      rw [if_pos ⟨rfl, show i < 18 by omega⟩]
      exact lastWritten_byteWords_of_lt (Nat.lt_succ_self i) d ds (by omega)
    | succ j =>
      rw [if_neg (by omega), ← Nat.add_assoc, Nat.add_right_comm]
      exact ih v (by omega) (by omega)

/-- The samples of words are steps, not resets. -/
theorem okSamples_noReset (ws : List Word) : NoReset (okSamples ws) :=
  List.forall_mem_map.mpr fun _ _ => rfl

/-- The transactions of the samples of some words. -/
theorem okSamples_map_instr (ws : List Word) : (okSamples ws).map Input.instr = ws.map decode :=
  List.map_map

/-- Settles O43: a `FRAME` is 18 filling transactions and a valid burst end, and each byte is last written by its own. -/
theorem wholeFrameBurstIsAccepted : Obligations.WholeFrameBurstIsAccepted := by
  intro bytes ok rest s hlen hwf hs hq
  have hq' : s.inputs = okSamples (byteWords 0 (bytes.map BitVec.toNat))
      ++ ⟨false, encode (.bytesReady 0 18), ok⟩ :: rest := by
    rw [hq, AsmLine.words, samplesOf_burstWords, List.length_map, hlen, List.append_assoc, List.singleton_append]
  have hr : NoReset (okSamples (byteWords 0 (bytes.map BitVec.toNat)) ++ [⟨false, encode (.bytesReady 0 18), ok⟩]) :=
    List.forall_mem_append.mpr ⟨okSamples_noReset _, List.forall_mem_singleton.mpr rfl⟩
  have hf : ∀ inp ∈ okSamples (byteWords 0 (bytes.map BitVec.toNat)), isFilling inp.instr = true :=
    List.forall_mem_map.mpr fun _ hw => isFilling_of_mem_byteWords hw
  obtain ⟨t, hrun, hvalid, htq, hread, hdec⟩ := run_filling_validBurst hwf hs hq' hr hf
    (decodeOfEncodeIsIdentity (.bytesReady 0 18) (by decide))
  rw [okSamples_length, byteWords_length, List.length_map, hlen] at hrun
  refine ⟨t, hrun, hvalid, htq, fun i hi => ?_, hdec⟩
  have hlast := lastWritten_byteWords (i := 0) (s.fb.read i) bytes (by omega) hi
  rw [Nat.zero_add] at hlast
  rw [hread, okSamples_map_instr, hlast]

end Sys2Proof.Machine
end

section
/-! PROOFS. The assembler's transactions one by one: those that only arm, those that change nothing, the byte write and the
two kinds of burst end, each with its whole frame (R112 to R128). -/

namespace Sys2Proof.Machine

/-! ### The operations that arm or stop -/

@[simp] theorem arm_st (s : State) : s.arm.st = armedState s := by rw [arm_eq]

@[simp] theorem arm_cs (s : State) : s.arm.cs = s.cs := by rw [arm_eq]

@[simp] theorem arm_cntS1 (s : State) : s.arm.cntS1 = s.cntS1 := by rw [arm_eq]

@[simp] theorem arm_cntS2 (s : State) : s.arm.cntS2 = s.cntS2 := by rw [arm_eq]

@[simp] theorem arm_draws (s : State) : s.arm.draws = s.draws := by rw [arm_eq]

@[simp] theorem arm_stopReq (s : State) : s.arm.out.stopReq = s.out.stopReq := by rw [arm_eq]

/-- The error strobes of an `ARM()`: `err[1]` when it fails, beside those raised before it (R112, R202). -/
@[simp] theorem arm_err (s : State) : s.arm.out.err = s.out.err ||| if s.armOk then 0#2 else 2#2 := by
  rw [arm_eq]
  cases s.armOk <;> simp

@[simp] theorem rearm_draws (s : State) : s.rearm.draws = s.draws := by
  cases hp : s.cfg.policy with
  | doubleBuffer => rw [rearm_doubleBuffer hp, arm_draws]
  | singleShot => rw [rearm_singleShot hp, stop_draws]

@[simp] theorem resupply_draws (s : State) : s.resupply.draws = s.draws := by
  cases hp : s.cfg.policy with
  | doubleBuffer => rw [resupply_doubleBuffer hp, arm_draws]
  | singleShot => rw [resupply_singleShot hp]

/-- No transaction draws an arm result: the end of the edge does (log 2). -/
theorem exec_draws {i : Instr} {s t : State} (h : exec i s = .next t) : t.draws = s.draws := by
  cases exec_cases h <;> simp

/-- A transaction leaves the parameters, the queue and the draw counter to the edge. -/
theorem exec_sameEnvironment {i : Instr} {s t : State} (h : exec i s = .next t) : SameEnvironment s t :=
  ⟨exec_cfg h, exec_inputs h, exec_draws h⟩

/-- With nothing queued the port shows `NOP` and a free arm result (R33, log 2). -/
theorem nextInput_nil {s : State} (h : s.inputs = []) : s.nextInput = ⟨false, 0, Config.armDraw s.draws⟩ := by
  simp [State.nextInput, h]

/-- Settles O7: the end of the edge drops the sample it took, or counts the draw. -/
theorem stepRunsTheDecodedTransaction : Obligations.StepRunsTheDecodedTransaction := by
  refine ⟨fun s t inp rest hq hr he => step_of_queued hq hr he, fun s t hq he => ?_⟩
  have hnop : decode s.nextInput.txn = .nop := by
    rw [nextInput_nil hq]
    exact (by decide : decode 0 = .nop)
  have hstep : step s = .next t.advance := step_of_exec (by rw [nextInput_nil hq]) (by rw [hnop]; exact he)
  have htq : t.inputs = [] := (exec_inputs he).trans hq
  rw [hstep, State.advance, htq, exec_draws he]

/-! ### The transactions that only arm -/

/-- `ARM()` at the start of a step. -/
theorem beginStep_arm_onlyArms (s : State) : OnlyArms s s.beginStep.arm false := by
  simp [OnlyArms, SameBuffer, SameControl, SameEnvironment, ShowsStart, Strobes, armedState, armErr]

/-- `ARM()` after `TruncatedFrame` is raised. -/
theorem raiseTruncatedFrame_arm_onlyArms (s : State) : OnlyArms s s.beginStep.raiseTruncatedFrame.arm true := by
  simp [OnlyArms, SameBuffer, SameControl, SameEnvironment, ShowsStart, Strobes, armedState, armErr]

/-- Where the buffer is not lent a transaction is its step's `ARM()` (R21, R126, R127). -/
theorem exec_of_unlent {s : State} (h : s.st.lent = false) (i : Instr) : exec i s = .next s.beginStep.arm := by
  obtain ⟨r, p, he⟩ := exec_eq_perState i s
  rw [he, perState_unlent r p h]

theorem ne_receiving_of_unlent {s : State} (h : s.st.lent = false) : s.st ≠ .receiving := by
  rintro hs
  rw [hs] at h
  contradiction

/-- Settles O15. -/
theorem unlentStatesOnlyArm : Obligations.UnlentStatesOnlyArm :=
  fun i s h => ⟨_, exec_of_unlent h i, beginStep_arm_onlyArms s⟩

/-- `RECEPTION_STOPPED` and `RECEPTION_DISABLED` arm in every state, and raise `TruncatedFrame` in `RECEIVING` alone (R123,
R124, R126 to R128). -/
theorem exec_ack {i : Instr} (hi : isAck i = true) (s : State) :
    ∃ t, exec i s = .next t ∧ OnlyArms s t (decide (s.st = .receiving)) := by
  have dispatch : ∃ t, s.perState (·.raiseTruncatedFrame.arm) State.arm = t
      ∧ OnlyArms s t (decide (s.st = .receiving)) := by
    obtain ⟨hs, he⟩ | ⟨hs, he⟩ | ⟨hs, he⟩ := perState_cases s (·.raiseTruncatedFrame.arm) State.arm
    · exact ⟨_, he, by rw [decide_eq_true hs]; exact raiseTruncatedFrame_arm_onlyArms s⟩
    · exact ⟨_, he, by rw [hs]; exact beginStep_arm_onlyArms s⟩
    · exact ⟨_, he, by rw [decide_eq_false (ne_receiving_of_unlent hs)]; exact beginStep_arm_onlyArms s⟩
  obtain ⟨t, he, ht⟩ := dispatch
  cases i with
  | receptionStopped | receptionDisabled => exact ⟨t, congrArg Host.Outcome.next he, ht⟩
  | nop | byteWrite | bytesReady | bufferNeeded | bufferReleased | rsv7 => contradiction

/-- Settles O25. -/
theorem unsolicitedStopDiscardsAndRearms : Obligations.UnsolicitedStopDiscardsAndRearms := by
  intro s hs
  have hack {i : Instr} (hi : isAck i = true) : ∃ t, exec i s = .next t ∧ OnlyArms s t true := by
    simpa only [decide_eq_true hs] using exec_ack hi s
  exact ⟨hack rfl, hack rfl⟩

/-- Settles O26. -/
theorem acknowledgmentRearms : Obligations.AcknowledgmentRearms := by
  intro s hs
  have hack {i : Instr} (hi : isAck i = true) : ∃ t, exec i s = .next t ∧ OnlyArms s t false := by
    have hne : s.st ≠ .receiving := by rw [hs]; decide
    simpa only [decide_eq_false hne] using exec_ack hi s
  exact ⟨hack rfl, hack rfl⟩

/-! ### The transactions that change nothing -/

/-- The start of a step by itself changes nothing (R111). -/
theorem beginStep_changesNothing (s : State) : ChangesNothing s s.beginStep := by
  simp [ChangesNothing, SameBuffer, SameControl, SameEnvironment, ShowsStart, Strobes]

/-- A dispatch that skips in both lent states. -/
theorem perState_skip {s : State} (h : s.st.lent = true) : s.perState State.skip State.skip = s.beginStep := by
  obtain ⟨-, he⟩ | ⟨-, he⟩ | ⟨hu, -⟩ := perState_cases s State.skip State.skip
  · exact he
  · exact he
  · rw [h] at hu
    contradiction

/-- Settles O16. -/
theorem quietTransactionsChangeNothing : Obligations.QuietTransactionsChangeNothing := by
  intro s h
  have he : Host.Outcome.next (φ := Fault) (ρ := Refusal) (s.perState State.skip State.skip) = .next s.beginStep :=
    congrArg Host.Outcome.next (perState_skip h)
  exact ⟨⟨_, he, beginStep_changesNothing s⟩, ⟨_, he, beginStep_changesNothing s⟩, ⟨_, he, beginStep_changesNothing s⟩⟩

/-- Settles O23. -/
theorem stoppingIgnoresBurstEndsAndRequests : Obligations.StoppingIgnoresBurstEndsAndRequests := by
  intro s offset length hs
  have skips (r : State → State) : s.perState r State.skip = s.beginStep := perState_stopping r State.skip hs
  exact ⟨⟨_, congrArg Host.Outcome.next (skips _), beginStep_changesNothing s⟩,
    ⟨_, congrArg Host.Outcome.next (skips _), beginStep_changesNothing s⟩⟩

/-- Settles O24: the re-supply is an `ARM()` under `DOUBLE_BUFFER` and nothing under `SINGLE_SHOT`. -/
theorem bufferNeededArmsOnlyUnderDoubleBuffer : Obligations.BufferNeededArmsOnlyUnderDoubleBuffer := by
  intro s hs
  refine ⟨s.beginStep.resupply, congrArg Host.Outcome.next (perState_receiving _ _ hs), ?_⟩
  cases hp : s.cfg.policy with
  | doubleBuffer => rw [if_pos rfl, resupply_doubleBuffer (s := s.beginStep) hp]; exact beginStep_arm_onlyArms s
  | singleShot => rw [if_neg (by decide), resupply_singleShot (s := s.beginStep) hp]; exact beginStep_changesNothing s

/-! ### The byte write -/

/-- Settles O17. -/
theorem byteWriteStoresItsByte : Obligations.ByteWriteStoresItsByte := by
  intro s idx data hwf hlent hidx
  have hread (a : Nat) := writeByte_read (s := s.beginStep) idx data hwf a
  refine ⟨_, exec_byteWrite_of_lent hlent idx data, ?_, fun a ha => ?_, writeByte_wf (s := s.beginStep) idx data hwf, rfl,
    ⟨rfl, rfl, rfl⟩, ⟨rfl, rfl, rfl⟩, ⟨rfl, rfl⟩, rfl, rfl, rfl, rfl⟩
  · rw [hread, if_pos ⟨rfl, hidx⟩]
  · rw [hread, if_neg (ha ·.1), beginStep_fb]

/-- Settles O18: outside the buffer the byte write is the start of the step alone. -/
theorem byteWriteOutsideTheBufferChangesNothing : Obligations.ByteWriteOutsideTheBufferChangesNothing := by
  intro s idx data hlent hidx
  have hfb := writeByte_fb_of_not_lt s.beginStep data (Nat.not_lt.mpr hidx)
  exact ⟨_, exec_byteWrite_of_lent hlent idx data, rfl, fun a => congrArg (Memory.read · a) hfb,
    (beginStep_changesNothing s).2.2⟩

/-! ### The burst ends -/

/-- A burst end in `RECEIVING` is its acceptance or discard and then the re-arm (R117 to R120). -/
theorem exec_bytesReady_receiving {s : State} (hs : s.st = .receiving) (offset length : Nat) :
    exec (.bytesReady offset length) s = .next (s.beginStep.endBurst offset length).rearm :=
  congrArg Host.Outcome.next (perState_receiving _ _ hs)

/-- What the re-arm of a burst end requests, by policy (R120): it keeps the other strobes. -/
theorem rearm_byPolicy {s : State} (harm : s.out.armReq = false) (hstop : s.out.stopReq = false) :
    if s.cfg.policy = .doubleBuffer then
      s.rearm.st = armedState s
        ∧ Strobes s.rearm true false s.out.frameValid (s.out.err ||| if s.armOk then 0#2 else 2#2)
    else s.rearm.st = .stopping ∧ Strobes s.rearm false true s.out.frameValid s.out.err := by
  cases hp : s.cfg.policy with
  | doubleBuffer => simp [rearm_doubleBuffer hp, Strobes, hstop]
  | singleShot => simp [rearm_singleShot hp, Strobes, harm]

/-- Settles O21: DECODE writes the registers, and the re-arm keeps them. -/
theorem validBurstIsDecodedAndRearmed : Obligations.ValidBurstIsDecodedAndRearmed := by
  intro s hs
  obtain ⟨t, he, -, hfb, hdec⟩ := exec_validBurst hs
  have hburst : exec (.bytesReady 0 18) s = .next s.beginStep.strobeFrameValid.decodeFrame.rearm := by
    rw [exec_bytesReady_receiving hs, endBurst_valid _ ⟨rfl, rfl⟩]
  obtain rfl := Host.Outcome.next.inj (hburst.symm.trans he)
  refine ⟨_, he, hdec, fun a => congrArg (Memory.read · a) hfb, exec_sameEnvironment he, exec_showsStart he, ?_⟩
  simpa [armedState, armErr] using
    rearm_byPolicy (s := s.beginStep.strobeFrameValid.decodeFrame) rfl rfl

/-- Settles O22: an invalid burst end decodes nothing and raises `err[0]` before the re-arm. -/
theorem invalidBurstIsDiscardedAndRearmed : Obligations.InvalidBurstIsDiscardedAndRearmed := by
  intro s offset length hs hv
  have he : exec (.bytesReady offset length) s = .next s.beginStep.raiseTruncatedFrame.rearm := by
    rw [exec_bytesReady_receiving hs, endBurst_invalid _ hv]
  refine ⟨_, he, rearm_sameControl s.beginStep.raiseTruncatedFrame, fun _ => by simp, exec_sameEnvironment he,
    exec_showsStart he, ?_⟩
  simpa [armedState, armErr] using rearm_byPolicy (s := s.beginStep.raiseTruncatedFrame) rfl rfl

end Sys2Proof.Machine
end

section
/-! PROOFS. What a transaction requests of the transport and whether it accepts a frame, said once (R131, R133); from it the
invariant (R30, R132) and the rules of the whole machine (R129 to R133). -/

namespace Sys2Proof.Machine

/-! ### A step that is no reset -/

/-- A step that is no reset is its transaction and then the end of the edge. -/
theorem exec_of_step {s t : State} (hr : s.nextInput.rst = false) (h : step s = .next t) :
    ∃ u, exec (decode s.nextInput.txn) s = .next u ∧ t = u.advance := by
  obtain ⟨hrst, -⟩ | ⟨u, -, he, hs⟩ := step_cases s
  · rw [hr] at hrst
    contradiction
  · exact ⟨u, he, Host.Outcome.next.inj (h.symm.trans hs)⟩

/-! ### What a transaction requests -/

/-- What a step from state `st` requests, given the policy and the arm result, with its next state and its outputs: an
`ARM()`, a `STOP()` from `RECEIVING` under `SINGLE_SHOT`, or nothing, and then only while the buffer is lent (R131). -/
inductive RequestCase (st : AsmState) (policy : RearmPolicy) (ok : Bool) (st' : AsmState) (out : StepOut) : Prop where
  | arms (harm : out.armReq = true) (hstop : out.stopReq = false) (hst : st' = if ok then .receiving else .error)
  | stops (harm : out.armReq = false) (hstop : out.stopReq = true) (hs : st = .receiving) (hp : policy = .singleShot)
      (hst : st' = .stopping)
  | nothing (harm : out.armReq = false) (hstop : out.stopReq = false) (herr : out.err = 0#2) (hs : st.lent = true)
      (hst : st' = st)

theorem requestCase_arm {s t : State} (h : t.out.stopReq = false) :
    RequestCase s.st s.cfg.policy t.armOk t.arm.st t.arm.out :=
  .arms (arm_armReq t) ((arm_stopReq t).trans h) (arm_st t)

theorem requestCase_rearm {s t : State} (hs : s.st = .receiving) (hp : t.cfg = s.cfg) (harm : t.out.armReq = false)
    (hstop : t.out.stopReq = false) : RequestCase s.st s.cfg.policy t.armOk t.rearm.st t.rearm.out := by
  cases hpol : t.cfg.policy with
  | doubleBuffer => rw [rearm_doubleBuffer hpol]; exact requestCase_arm hstop
  | singleShot => rw [rearm_singleShot hpol]; exact .stops harm rfl hs (hp ▸ hpol) rfl

/-- What every transaction requests, with the state it leaves: the table of R131. -/
theorem exec_requestCase {i : Instr} {s t : State} (h : exec i s = .next t) :
    RequestCase s.st s.cfg.policy s.armOk t.st t.out := by
  have lent (hs : s.st = .receiving ∨ s.st = .stopping) : s.st.lent = true := by
    obtain hs | hs := hs <;> rw [hs] <;> rfl
  cases exec_cases h with
  | unlent | acknowledgment => exact requestCase_arm (t := s.beginStep) rfl
  | quiet hs | byteWrite hs => exact .nothing rfl rfl rfl hs rfl
  | ignoredWhileStopping hs => exact .nothing rfl rfl rfl (lent (.inr hs)) rfl
  | validBurst hs => exact requestCase_rearm (t := s.beginStep.strobeFrameValid.decodeFrame) hs rfl rfl rfl
  | invalidBurst hs => exact requestCase_rearm (t := s.beginStep.raiseTruncatedFrame) hs rfl rfl rfl
  | unsolicitedStop => exact requestCase_arm (t := s.beginStep.raiseTruncatedFrame) rfl
  | resupply hs =>
    cases hp : s.cfg.policy with
    | doubleBuffer =>
      rw [resupply_doubleBuffer (s := s.beginStep) hp, ← hp]
      exact requestCase_arm (t := s.beginStep) rfl
    | singleShot =>
      rw [resupply_singleShot (s := s.beginStep) hp]
      exact .nothing rfl rfl rfl (lent (.inl hs)) rfl

/-- What a step that is no reset requests. -/
theorem step_requestCase {s t : State} (hr : s.nextInput.rst = false) (h : step s = .next t) :
    RequestCase s.st s.cfg.policy s.nextInput.armOk t.st t.out := by
  obtain ⟨u, he, rfl⟩ := exec_of_step hr h
  rw [advance_st, advance_out]
  exact exec_requestCase he

/-! ### When a transaction accepts a frame -/

@[simp] theorem resupply_frameValid (s : State) : s.resupply.out.frameValid = s.out.frameValid := by
  cases hp : s.cfg.policy with
  | doubleBuffer => rw [resupply_doubleBuffer hp, arm_frameValid]
  | singleShot => rw [resupply_singleShot hp]

/-- The re-supply keeps the registers and counters (R112, R121). -/
theorem resupply_sameControl (s : State) : SameControl s s.resupply := by
  cases hp : s.cfg.policy with
  | doubleBuffer => rw [resupply_doubleBuffer hp]; exact ⟨arm_cs s, arm_cntS1 s, arm_cntS2 s⟩
  | singleShot => rw [resupply_singleShot hp]; exact ⟨rfl, rfl, rfl⟩

/-- A transaction accepts and decodes the frame in the buffer where it is a valid burst end in `RECEIVING`, and else keeps
every register and counter (R133). -/
theorem exec_control_cases {i : Instr} {s t : State} (h : exec i s = .next t) :
    (t.out.frameValid = true ∧ (s.st = .receiving ∧ i = .bytesReady 0 18) ∧ DecodedFrom s s.fb t)
      ∨ (t.out.frameValid = false ∧ ¬(s.st = .receiving ∧ i = .bytesReady 0 18) ∧ SameControl s t) := by
  by_cases hb : s.st = .receiving ∧ i = .bytesReady 0 18
  · obtain ⟨hs, rfl⟩ := hb
    obtain ⟨u, he, hvalid, -, hdec⟩ := exec_validBurst hs
    obtain rfl := Host.Outcome.next.inj (he.symm.trans h)
    exact .inl ⟨hvalid, ⟨hs, rfl⟩, hdec⟩
  · refine .inr ?_
    cases exec_cases h with
    | validBurst hs hi => exact absurd ⟨hs, hi⟩ hb
    | invalidBurst => exact ⟨by simp, hb, rearm_sameControl s.beginStep.raiseTruncatedFrame⟩
    | resupply => exact ⟨by simp, hb, resupply_sameControl s.beginStep⟩
    | _ => exact ⟨by simp, hb, by simp [SameControl]⟩

/-- A step that is no reset accepts a frame, or keeps every register and counter. -/
theorem step_control_cases {s t : State} (hr : s.nextInput.rst = false) (h : step s = .next t) :
    (t.out.frameValid = true ∧ (s.st = .receiving ∧ decode s.nextInput.txn = .bytesReady 0 18))
      ∨ (t.out.frameValid = false ∧ ¬(s.st = .receiving ∧ decode s.nextInput.txn = .bytesReady 0 18)
          ∧ SameControl s t) := by
  obtain ⟨u, he, rfl⟩ := exec_of_step hr h
  obtain ⟨hvalid, hburst, -⟩ | ⟨hvalid, hburst, hcs, hcnt1, hcnt2⟩ := exec_control_cases he
  · exact .inl ⟨by rw [advance_out, hvalid], hburst⟩
  · refine .inr ⟨by rw [advance_out, hvalid], hburst, ?_⟩
    exact ⟨(advance_cs u).trans hcs, (advance_cntS1 u).trans hcnt1, (advance_cntS2 u).trans hcnt2⟩

/-- Settles O27. -/
theorem frameValidExactlyOnAcceptedBurst : Obligations.FrameValidExactlyOnAcceptedBurst := by
  intro s t hr h
  obtain ⟨hvalid, hburst⟩ | ⟨hvalid, hburst, hsame⟩ := step_control_cases hr h
  · exact ⟨iff_of_true hvalid hburst, fun hf => absurd (hvalid.symm.trans hf) (by decide)⟩
  · exact ⟨iff_of_false (by simp [hvalid]) hburst, fun _ => hsame⟩

/-! ### The invariant -/

/-- The invariant holds wherever the buffer is empty, the block idle and both counters zero. -/
theorem inv_of_idle {s : State} (hfb : s.fb = []) (hst : s.st = .idle) (h1 : s.cntS1 = 0) (h2 : s.cntS2 = 0) : s.Inv := by
  refine ⟨by rw [hfb]; rfl, by rw [hst]; decide, fun h => ?_, ?_, ?_⟩
  · rw [hst] at h
    contradiction
  · rw [h1]
    exact debounceN_pos s.cfg
  · rw [h2]
    exact debounceN_pos s.cfg

/-- Settles O12. -/
theorem invariantHoldsAtReset : Obligations.InvariantHoldsAtReset := inv_of_idle rfl rfl rfl rfl

/-- A transaction keeps the canonical form of the buffer (R60). -/
theorem exec_wf {i : Instr} {s t : State} (h : exec i s = .next t) (hwf : s.fb.wf = true) : t.fb.wf = true := by
  obtain hfb | ⟨idx, data, -, hidx, -, hfb⟩ := exec_fb_cases h
  · rw [hfb, hwf]
  · rw [hfb]
    exact Memory.wfFrom_write data hwf (Nat.zero_le idx) hidx

/-- A transaction keeps both debounce counters below the threshold (R30): the filter stores no other counter. -/
theorem exec_counters {i : Instr} {s t : State} (h : exec i s = .next t) (h1 : s.cntS1.toNat < s.cfg.debounceN)
    (h2 : s.cntS2.toNat < s.cfg.debounceN) : t.cntS1.toNat < s.cfg.debounceN ∧ t.cntS2.toNat < s.cfg.debounceN := by
  obtain ⟨-, -, hdec⟩ | ⟨-, -, -, hcnt1, hcnt2⟩ := exec_control_cases h
  · obtain ⟨-, hcnt1, hcnt2⟩ := decodedFrom_iff.mp hdec
    rw [hcnt1, hcnt2]
    exact ⟨debounce_cnt_lt (debounceN_pos s.cfg) .., debounce_cnt_lt (debounceN_pos s.cfg) ..⟩
  · rw [hcnt1, hcnt2]
    exact ⟨h1, h2⟩

/-- The state an `ARM()` leaves is `RECEIVING` or `ERROR` (R112). -/
theorem armResult_ne {st : AsmState} (ok : Bool) (hreceiving : st ≠ .receiving) (herror : st ≠ .error) :
    (if ok then AsmState.receiving else .error) ≠ st := by
  cases ok with
  | true => exact hreceiving.symm
  | false => exact herror.symm

/-- No step ends in `FRAME_READY` (R129): no request leads there, and a step that requests nothing starts lent. -/
theorem RequestCase.ne_frameReady {st st' : AsmState} {policy : RearmPolicy} {ok : Bool} {out : StepOut}
    (h : RequestCase st policy ok st' out) : st' ≠ .frameReady := by
  rintro rfl
  cases h with
  | arms _ _ hst => exact armResult_ne ok (by decide) (by decide) hst.symm
  | stops _ _ _ _ hst => contradiction
  | nothing _ _ _ hs hst => rw [← hst] at hs; contradiction

/-- Every transaction keeps the invariant. -/
theorem exec_inv {i : Instr} {s t : State} (h : exec i s = .next t) (hinv : s.Inv) : t.Inv := by
  obtain ⟨hwf, -, hstop, h1, h2⟩ := hinv
  refine ⟨exec_wf h hwf, (exec_requestCase h).ne_frameReady, fun hst => ?_, ?_⟩
  · rw [exec_cfg h]
    cases exec_requestCase h with
    | arms _ _ harmed => exact absurd (harmed.symm.trans hst) (armResult_ne _ (by decide) (by decide))
    | stops _ _ _ hp _ => exact hp
    | nothing _ _ _ _ hsame => exact hstop (hsame.symm.trans hst)
  · rw [exec_cfg h]
    exact exec_counters h h1 h2

/-- Settles O13: a reset edge starts over, and the end of any other edge touches nothing the invariant speaks of. -/
theorem everyStepKeepsTheInvariant : Obligations.EveryStepKeepsTheInvariant := by
  intro s t hinv h
  obtain ⟨-, hs⟩ | ⟨u, -, he, hs⟩ := step_cases s
  · obtain rfl : s.resetEdge = t := Host.Outcome.next.inj (hs.symm.trans h)
    exact inv_of_idle (resetEdge_fb s) (resetEdge_st s) (resetEdge_cntS1 s) (resetEdge_cntS2 s)
  · obtain rfl : u.advance = t := Host.Outcome.next.inj (hs.symm.trans h)
    simpa only [State.Inv, advance_fb, advance_st, advance_cfg, advance_cntS1, advance_cntS2] using exec_inv he hinv

/-! ### The requests by the transition table -/

theorem rearm_armReq_iff {s : State} (h : s.out.armReq = false) :
    s.rearm.out.armReq = true ↔ s.cfg.policy = .doubleBuffer := by
  cases hp : s.cfg.policy with
  | doubleBuffer => simp [rearm_doubleBuffer hp]
  | singleShot => simp [rearm_singleShot hp, h]

theorem rearm_stopReq_iff {s : State} (h : s.out.stopReq = false) :
    s.rearm.out.stopReq = true ↔ s.cfg.policy = .singleShot := by
  cases hp : s.cfg.policy with
  | doubleBuffer => simp [rearm_doubleBuffer hp, h]
  | singleShot => simp [rearm_singleShot hp]

theorem resupply_armReq_iff {s : State} (h : s.out.armReq = false) :
    s.resupply.out.armReq = true ↔ s.cfg.policy = .doubleBuffer := by
  cases hp : s.cfg.policy with
  | doubleBuffer => simp [resupply_doubleBuffer hp]
  | singleShot => simp [resupply_singleShot hp, h]

@[simp] theorem resupply_stopReq (s : State) : s.resupply.out.stopReq = s.out.stopReq := by
  cases hp : s.cfg.policy with
  | doubleBuffer => rw [resupply_doubleBuffer hp, arm_stopReq]
  | singleShot => rw [resupply_singleShot hp]

/-- A burst end acknowledges no stop (R128). -/
theorem isAck_eq_false_of_isBurstEnd {i : Instr} (h : isBurstEnd i = true) : isAck i = false := by
  cases i with
  | receptionStopped | receptionDisabled => contradiction
  | nop | byteWrite | bytesReady | bufferNeeded | bufferReleased | rsv7 => rfl

/-- Where a transaction arms: where the buffer is not lent, at an acknowledgment, and under `DOUBLE_BUFFER` at a burst end
or a request for a buffer (R131). -/
theorem exec_armReq_iff {i : Instr} {s t : State} (h : exec i s = .next t) :
    t.out.armReq = true ↔ s.st.lent = false ∨ isAck i = true
      ∨ (s.st = .receiving ∧ s.cfg.policy = .doubleBuffer
          ∧ (i = .bufferNeeded ∨ ∃ offset length, i = .bytesReady offset length)) := by
  cases exec_cases h with
  | unlent hs => simp [hs]
  | acknowledgment _ hi | unsolicitedStop _ hi => simp [hi]
  | quiet hs hi => obtain rfl | rfl | rfl := hi <;> simp [hs, isAck]
  | byteWrite hs _ _ hi => simp [hs, hi, isAck]
  | validBurst hs hi =>
    simpa [hs, hi, isAck, AsmState.lent] using rearm_armReq_iff (s := s.beginStep.strobeFrameValid.decodeFrame) rfl
  | invalidBurst hs _ _ hi =>
    simpa [hs, hi, isAck, AsmState.lent] using rearm_armReq_iff (s := s.beginStep.raiseTruncatedFrame) rfl
  | resupply hs hi =>
    simpa [hs, hi, isAck, AsmState.lent] using resupply_armReq_iff (s := s.beginStep) rfl
  | ignoredWhileStopping hs hi =>
    have hack : isAck i = false := by
      obtain rfl | hend := hi
      · rfl
      · exact isAck_eq_false_of_isBurstEnd hend
    simp [hs, hack, AsmState.lent]

/-- Where a transaction stops: at a burst end in `RECEIVING` under `SINGLE_SHOT` (R131). -/
theorem exec_stopReq_iff {i : Instr} {s t : State} (h : exec i s = .next t) :
    t.out.stopReq = true ↔
      s.st = .receiving ∧ s.cfg.policy = .singleShot ∧ ∃ offset length, i = .bytesReady offset length := by
  cases exec_cases h with
  | unlent hs => simp [ne_receiving_of_unlent hs]
  | acknowledgment hs _ | ignoredWhileStopping hs _ => simp [hs]
  | unsolicitedStop _ hi =>
    refine iff_of_false (by simp) ?_
    rintro ⟨-, -, _, _, rfl⟩
    contradiction
  | quiet _ hi => obtain rfl | rfl | rfl := hi <;> simp
  | byteWrite _ _ _ hi => simp [hi]
  | validBurst hs hi =>
    simpa [hs, hi] using rearm_stopReq_iff (s := s.beginStep.strobeFrameValid.decodeFrame) rfl
  | invalidBurst hs _ _ hi =>
    simpa [hs, hi] using rearm_stopReq_iff (s := s.beginStep.raiseTruncatedFrame) rfl
  | resupply _ hi => simp [hi]

/-- A terminal event is an acknowledgment or a burst end (R114). -/
theorem isTerminal_cases {i : Instr} (h : isTerminal i = true) :
    isAck i = true ∨ ∃ offset length, i = .bytesReady offset length := by
  cases i with
  | bytesReady offset length => exact .inr ⟨offset, length, rfl⟩
  | receptionStopped | receptionDisabled => exact .inl rfl
  | nop | byteWrite | bufferNeeded | bufferReleased | rsv7 => contradiction

/-- A terminal event in `RECEIVING` is answered with a request (R114). -/
theorem exec_requests_of_terminal {i : Instr} {s t : State} (h : exec i s = .next t) (hs : s.st = .receiving)
    (hi : isTerminal i = true) : t.out.armReq = true ∨ t.out.stopReq = true := by
  rw [exec_armReq_iff h, exec_stopReq_iff h]
  obtain hack | hburst := isTerminal_cases hi
  · exact .inl (.inr (.inl hack))
  · cases hp : s.cfg.policy with
    | doubleBuffer => exact .inl (.inr (.inr ⟨hs, rfl, .inr hburst⟩))
    | singleShot => exact .inr ⟨hs, rfl, hburst⟩

/-- No step requests both an arm and a stop. -/
theorem RequestCase.not_both {st st' : AsmState} {policy : RearmPolicy} {ok : Bool} {out : StepOut}
    (h : RequestCase st policy ok st' out) : ¬(out.armReq = true ∧ out.stopReq = true) := by
  rintro ⟨ha, hs⟩
  cases h with
  | arms _ hstop => exact absurd (hs.symm.trans hstop) (by decide)
  | stops harm | nothing harm => exact absurd (ha.symm.trans harm) (by decide)

/-- Settles O28. -/
theorem requestsExactlyByTheTransitionTable : Obligations.RequestsExactlyByTheTransitionTable :=
  fun _ _ _ h =>
    ⟨exec_armReq_iff h, exec_stopReq_iff h, (exec_requestCase h).not_both, exec_requests_of_terminal h⟩

/-! ### The states a step ends in -/

/-- Where the buffer is not lent the next step that is no reset arms, whatever its transaction (R132 (v)). -/
theorem onInput_armReq_of_unlent {s : State} (h : s.st.lent = false) {inp : Input} (hr : inp.rst = false) :
    ∃ u, s.onInput inp = .next u ∧ u.out.armReq = true := by
  have he := exec_of_unlent (s := s.withQueue [inp]) h inp.instr
  exact ⟨_, step_of_queued rfl hr he, arm_armReq _⟩

/-- Settles O30. -/
theorem noSilentStall : Obligations.NoSilentStall := by
  intro s t _
  cases hl : t.st.lent with
  | true => exact .inl rfl
  | false => exact .inr fun w ok => onInput_armReq_of_unlent hl rfl

/-- Settles O31. -/
theorem lendingFollowsTheLastRequest : Obligations.LendingFollowsTheLastRequest := by
  intro s t hr h
  cases step_requestCase hr h with
  | arms harm _ hst =>
    rw [hst, if_pos harm]
    cases s.nextInput.armOk <;> rfl
  | stops harm hstop _ _ hst => rw [hst, harm, hstop]; rfl
  | nothing harm hstop _ _ hst => rw [hst, harm, hstop]; rfl

/-- Settles O32: a truncated burst under `DOUBLE_BUFFER` arms, since a step that requests nothing raises nothing. -/
theorem frameReadyIsNeverHeld : Obligations.FrameReadyIsNeverHeld := by
  intro s t hr h
  have hcase := step_requestCase hr h
  refine ⟨hcase.ne_frameReady, fun hvalid => ?_, fun htrunc hp hok => ?_⟩
  · have hburst := ((frameValidExactlyOnAcceptedBurst s t hr h).1.mp hvalid).1
    cases hcase with
    | arms _ _ hst => rw [hst]; cases s.nextInput.armOk <;> simp
    | stops _ _ _ _ hst => exact .inr (.inr hst)
    | nothing _ _ _ _ hst => exact .inl (hst.trans hburst)
  · cases hcase with
    | arms _ _ hst => rw [hst, hok, if_pos rfl]
    | stops _ _ _ hp' => rw [hp] at hp'; contradiction
    | nothing _ _ herr => rw [truncatedFrame, herr] at htrunc; contradiction

/-- Settles O33. -/
theorem idleOnlyByReset : Obligations.IdleOnlyByReset := by
  intro s t h hidle
  by_contra hr
  cases step_requestCase (Bool.eq_false_of_not_eq_true hr) h with
  | arms _ _ hst => exact armResult_ne _ (by decide) (by decide) (hst.symm.trans hidle)
  | stops _ _ _ _ hst => rw [hidle] at hst; contradiction
  | nothing _ _ _ hs hst => rw [← hst, hidle] at hs; contradiction

end Sys2Proof.Machine
end

section
/-! PROOFS. Several steps: the way out of `ERROR` (R127, R207), the wait in `STOPPING` (R128, R234), and the return to
`RECEIVING` after a truncated burst and after a stop (R134, R237). -/

namespace Sys2Proof.Machine

/-! ### One step on a queued sample -/

/-- The arm result of a step is that of its queued sample (R33). -/
theorem armOk_cons {s : State} {inp : Input} {rest : List Input} (h : s.inputs = inp :: rest) : s.armOk = inp.armOk :=
  congrArg Input.armOk (nextInput_cons h)

/-- A step on a queued sample whose transaction only arms. -/
theorem step_of_onlyArms {s t : State} {inp : Input} {rest : List Input} {truncated : Bool} (hq : s.inputs = inp :: rest)
    (hr : inp.rst = false) (he : exec inp.instr s = .next t) (ht : OnlyArms s t truncated) :
    ∃ u, step s = .next u ∧ u.inputs = rest ∧ u.st = (if inp.armOk then .receiving else .error) ∧ SameBuffer s u
      ∧ SameControl s u
      ∧ Strobes u true false false ((if truncated then 1#2 else 0#2) ||| (if inp.armOk then 0#2 else 2#2)) := by
  obtain ⟨hst, hbuffer, hcontrol, -, -, hstrobes⟩ := ht
  rw [← armOk_cons hq]
  exact ⟨t.withQueue rest, step_of_queued hq hr he, rfl, hst, hbuffer, hcontrol, hstrobes⟩

/-- A step on a queued acknowledgment arms in every state; in `RECEIVING` it raises `TruncatedFrame` (R123, R124, R128). -/
theorem step_ack {s : State} {inp : Input} {rest : List Input} (hq : s.inputs = inp :: rest) (hr : inp.rst = false)
    (hi : isAck inp.instr = true) :
    ∃ u, step s = .next u ∧ u.inputs = rest ∧ u.st = (if inp.armOk then .receiving else .error) ∧ SameBuffer s u
      ∧ SameControl s u
      ∧ Strobes u true false false
          ((if decide (s.st = .receiving) then 1#2 else 0#2) ||| (if inp.armOk then 0#2 else 2#2)) := by
  obtain ⟨t, he, ht⟩ := exec_ack hi s
  exact step_of_onlyArms hq hr he ht

/-! ### The way out of `ERROR` -/

/-- A run of failing arms from `ERROR` stays there and keeps the buffer and the registers (R127). -/
theorem run_failing {fails rest : List Input} {s : State} (hs : s.st = .error) (hq : s.inputs = fails ++ rest)
    (hr : NoReset fails) (hf : ∀ inp ∈ fails, inp.armOk = false) :
    ∃ t : State, Host.Core.run Sys2Proof.core fails.length s = .next t ∧ t.st = .error ∧ t.inputs = rest
      ∧ SameBuffer s t ∧ SameControl s t := by
  induction fails generalizing s with
  | nil => exact ⟨s, rfl, hs, hq, fun _ => rfl, rfl, rfl, rfl⟩
  | cons inp fails ih =>
    obtain ⟨hinp, hr⟩ := List.forall_mem_cons.mp hr
    obtain ⟨hfail, hf⟩ := List.forall_mem_cons.mp hf
    have hu : s.st.lent = false := by rw [hs]; rfl
    obtain ⟨u, hstep, huq, hus, hubuf, ⟨hucs, hucnt1, hucnt2⟩, -⟩ :=
      step_of_onlyArms hq hinp (exec_of_unlent hu inp.instr) (beginStep_arm_onlyArms s)
    rw [hfail] at hus
    obtain ⟨t, hrun, hts, htq, htbuf, htcs, htcnt1, htcnt2⟩ := ih hus huq hr hf
    exact ⟨t, (run_succ hstep _).trans hrun, hts, htq, fun a => (htbuf a).trans (hubuf a), htcs.trans hucs,
      htcnt1.trans hucnt1, htcnt2.trans hucnt2⟩

/-- Settles O39: the failures hold `ERROR`, and the success arms from there. -/
theorem firstSuccessfulArmLeavesError : Obligations.FirstSuccessfulArmLeavesError := by
  intro fails rest good s hs hq hr hf hgood
  obtain ⟨hrf, hrg⟩ := List.forall_mem_append.mp hr
  obtain ⟨t, hrun, hts, htq, htbuf, htcs, htcnt1, htcnt2⟩ := run_failing hs hq hrf hf
  have hu : t.st.lent = false := by rw [hts]; rfl
  obtain ⟨u, hstep, huq, hus, hubuf, ⟨hucs, hucnt1, hucnt2⟩, -⟩ :=
    step_of_onlyArms htq (hrg good (List.mem_singleton_self good)) (exec_of_unlent hu good.instr) (beginStep_arm_onlyArms t)
  rw [hgood, if_pos rfl] at hus
  refine ⟨u, ?_, hus, huq, fun a => (hubuf a).trans (htbuf a), hucs.trans htcs, hucnt1.trans htcnt1, hucnt2.trans htcnt2⟩
  rw [run_add hrun, run_succ hstep]
  rfl

/-! ### The wait in `STOPPING` -/

/-- Whatever is no acknowledgment leaves `STOPPING`, the registers and the strobes as they are (R128). -/
theorem exec_waiting {i : Instr} {s t : State} (h : exec i s = .next t) (hs : s.st = .stopping) (hi : isAck i = false) :
    t.st = .stopping ∧ SameControl s t ∧ Strobes t false false false 0#2 := by
  have notReceiving (hrec : s.st = .receiving) : False := by rw [hs] at hrec; contradiction
  cases exec_cases h with
  | quiet | byteWrite | ignoredWhileStopping => exact ⟨hs, ⟨rfl, rfl, rfl⟩, rfl, rfl, rfl, rfl⟩
  | unlent hu => rw [hs] at hu; contradiction
  | acknowledgment _ hack => rw [hi] at hack; contradiction
  | validBurst hrec | invalidBurst hrec | resupply hrec | unsolicitedStop hrec => exact (notReceiving hrec).elim

/-- A run without an acknowledgment stays in `STOPPING`, and shows no strobe if it starts so or takes a step. -/
theorem run_waiting {waits rest : List Input} {s : State} (hs : s.st = .stopping) (hq : s.inputs = waits ++ rest)
    (hr : NoReset waits) (hw : ∀ inp ∈ waits, isAck inp.instr = false) :
    ∃ t : State, Host.Core.run Sys2Proof.core waits.length s = .next t ∧ t.st = .stopping ∧ t.inputs = rest
      ∧ SameControl s t ∧ (waits ≠ [] ∨ Strobes s false false false 0#2 → Strobes t false false false 0#2) := by
  induction waits generalizing s with
  | nil => exact ⟨s, rfl, hs, hq, ⟨rfl, rfl, rfl⟩, fun h => h.resolve_left (· rfl)⟩
  | cons inp waits ih =>
    obtain ⟨hinp, hr⟩ := List.forall_mem_cons.mp hr
    obtain ⟨hwait, hw⟩ := List.forall_mem_cons.mp hw
    obtain ⟨u, he⟩ := exec_answers_next inp.instr s
    obtain ⟨hus, ⟨hucs, hucnt1, hucnt2⟩, hustrobes⟩ := exec_waiting he hs hwait
    have hstep : step s = .next (u.withQueue (waits ++ rest)) := step_of_queued hq hinp he
    obtain ⟨t, hrun, hts, htq, ⟨htcs, htcnt1, htcnt2⟩, htstrobes⟩ :=
      ih (s := u.withQueue (waits ++ rest)) hus rfl hr hw
    exact ⟨t, (run_succ hstep _).trans hrun, hts, htq, ⟨htcs.trans hucs, htcnt1.trans hucnt1, htcnt2.trans hucnt2⟩,
      fun _ => htstrobes (.inr hustrobes)⟩

/-- Settles O40. -/
theorem stoppingWaitsForTheAcknowledgment : Obligations.StoppingWaitsForTheAcknowledgment := by
  intro waits rest s hs hq hr hw
  obtain ⟨t, hrun, hts, htq, ⟨htcs, htcnt1, htcnt2⟩, hstrobes⟩ := run_waiting hs hq hr hw
  refine ⟨⟨t, hrun, hts, htq, ⟨htcs, htcnt1, htcnt2⟩, fun hne => hstrobes (.inl hne)⟩, fun ack later hrest hack hi => ?_⟩
  obtain ⟨u, hstep, huq, hus, -, ⟨hucs, hucnt1, hucnt2⟩, hustrobes⟩ := step_ack (htq.trans hrest) hack hi
  refine ⟨u, ?_, huq, ⟨hucs.trans htcs, hucnt1.trans htcnt1, hucnt2.trans htcnt2⟩, hus, ?_⟩
  · rw [run_add hrun, run_succ hstep]
    rfl
  · simpa [hts] using hustrobes

/-! ### The accepted frame -/

/-- Settles O41. -/
theorem acceptedFrameIsTheBytesLastWritten : Obligations.AcceptedFrameIsTheBytesLastWritten :=
  fun _ _ _ _ hwf hs hq hr hf hready => run_filling_validBurst hwf hs hq hr hf hready

/-! ### The return to `RECEIVING` -/

/-- Settles O44: the truncated burst is re-armed or stopped, and the acknowledgment arms from either state. -/
theorem truncatedBurstReturnsToReceiving : Obligations.TruncatedBurstReturnsToReceiving := by
  intro s bad ack rest offset length hs hq hbad hack hi hv hbadOk hackAck hackOk
  obtain ⟨t, he, hsame, -, -, -, hpolicy⟩ := invalidBurstIsDiscardedAndRearmed s offset length hs hv
  have hok : s.armOk = true := (armOk_cons hq).trans hbadOk
  have hstep : step s = .next (t.withQueue (ack :: rest)) := step_of_queued hq hbad (by rw [hi]; exact he)
  obtain ⟨u, hstep', -, hus, -⟩ := step_ack (s := t.withQueue (ack :: rest)) rfl hack hackAck
  rw [hackOk, if_pos rfl] at hus
  have answer : truncatedFrame t = true ∧ t.st = if s.cfg.policy = .doubleBuffer then .receiving else .stopping := by
    cases hp : s.cfg.policy with
    | doubleBuffer =>
      rw [hp, if_pos rfl] at hpolicy
      obtain ⟨hts, -, -, -, hterr⟩ := hpolicy
      exact ⟨by simp [truncatedFrame, hterr, hok], by simp [hts, hok]⟩
    | singleShot =>
      rw [hp, if_neg (by decide)] at hpolicy
      obtain ⟨hts, -, -, -, hterr⟩ := hpolicy
      exact ⟨by simp [truncatedFrame, hterr], by simp [hts]⟩
  exact ⟨_, u, hstep, hstep', answer.1, hsame, hus, answer.2⟩

/-- Settles O45. -/
theorem secondAcknowledgmentIsSpuriousTruncation : Obligations.SecondAcknowledgmentIsSpuriousTruncation := by
  intro s first second rest hs hq hfirst hsecond hiFirst hiSecond hok
  obtain ⟨t, hstep, htq, hts, htbuf, ⟨htcs, htcnt1, htcnt2⟩, -, -, -, hterr⟩ := step_ack hq hfirst hiFirst
  rw [hok, if_pos rfl] at hts
  obtain ⟨u, hstep', -, -, hubuf, ⟨hucs, hucnt1, hucnt2⟩, huarm, -, -, huerr⟩ := step_ack htq hsecond hiSecond
  refine ⟨t, u, hstep, hstep', hts, ?_, ?_, huarm, ⟨hucs.trans htcs, hucnt1.trans htcnt1, hucnt2.trans htcnt2⟩,
    fun a => (hubuf a).trans (htbuf a)⟩
  · simp [hterr, hs, hok]
  · rw [truncatedFrame, huerr, hts]
    cases second.armOk <;> rfl

end Sys2Proof.Machine
end

section
/-! PROOFS. Endless streams of samples: what each step of a stream requests, and the recovery of the block under the
transport's duties (R19, R134, R204, R211). -/

namespace Sys2Proof.Machine

/-! ### One step of a stream -/

/-- The state after a step on a sample is the one its transaction leaves, with the queue used up. -/
theorem after_of_exec {s t : State} {inp : Input} (hr : inp.rst = false)
    (he : exec inp.instr (s.withQueue [inp]) = .next t) : s.after inp = t.withQueue [] := by
  have hstep : s.onInput inp = .next (t.withQueue []) := step_of_queued (s := s.withQueue [inp]) rfl hr he
  rw [State.after, hstep]

/-- Step `n` of a stream without resets runs the transaction of sample `n`. -/
theorem runOn_succ_exec {stream : Nat → Input} (hr : ∀ n, (stream n).rst = false) (s : State) (n : Nat) :
    ∃ t : State, exec (stream n).instr ((runOn stream s n).withQueue [stream n]) = .next t
      ∧ runOn stream s (n + 1) = t.withQueue [] := by
  obtain ⟨t, he⟩ := exec_answers_next (stream n).instr ((runOn stream s n).withQueue [stream n])
  exact ⟨t, he, after_of_exec (hr n) he⟩

section

variable {stream : Nat → Input} (hr : ∀ n, (stream n).rst = false) {s : State}

include hr

/-- What step `n` of a stream requests (R131). -/
theorem runOn_requestCase (n : Nat) :
    RequestCase (runOn stream s n).st (runOn stream s n).cfg.policy (stream n).armOk (runOn stream s (n + 1)).st
      (runOn stream s (n + 1)).out := by
  obtain ⟨t, he, hnext⟩ := runOn_succ_exec hr s n
  rw [hnext]
  exact exec_requestCase he

/-- A step of a stream that arms ends in `RECEIVING` or in `ERROR`, as the arm result says (R112). -/
theorem runOn_st_of_armsAt {n : Nat} (h : armsAt stream s n) :
    (runOn stream s (n + 1)).st = if (stream n).armOk then .receiving else .error := by
  cases runOn_requestCase hr (s := s) n with
  | arms _ _ hst => exact hst
  | stops harm | nothing harm => exact absurd (h.symm.trans harm) (by decide)

/-- Where the buffer is not lent, every step of a stream arms (R126, R127). -/
theorem armsAt_of_unlent {n : Nat} (h : (runOn stream s n).st.lent = false) : armsAt stream s n := by
  obtain ⟨t, he, hnext⟩ := runOn_succ_exec hr s n
  rw [armsAt, hnext]
  exact (exec_armReq_iff he).mpr (.inl h)

/-- Every acknowledgment in a stream is answered with an arm (R123, R124, R128). -/
theorem armsAt_of_ack {n : Nat} (h : isAck (stream n).instr = true) : armsAt stream s n := by
  obtain ⟨t, he, hnext⟩ := runOn_succ_exec hr s n
  rw [armsAt, hnext]
  exact (exec_armReq_iff he).mpr (.inr (.inl h))

/-! ### Recovery -/

/-- Where a stream has led into `STOPPING`, a stop was requested before, and the block has waited ever since. -/
theorem exists_stopsAt_of_stopping (hs : s.st ≠ .stopping) {m : Nat} (h : (runOn stream s m).st = .stopping) :
    ∃ k, k < m ∧ stopsAt stream s k ∧ ∀ j, k < j → j ≤ m → (runOn stream s j).st = .stopping := by
  induction m with
  | zero => exact absurd h hs
  | succ m ih =>
    cases runOn_requestCase hr (s := s) m with
    | arms _ _ hst => exact absurd (hst.symm.trans h) (armResult_ne _ (by decide) (by decide))
    | stops _ hstop =>
      refine ⟨m, Nat.lt_succ_self m, hstop, fun j hj hjm => ?_⟩
      rw [Nat.le_antisymm hjm hj, h]
    | nothing _ _ _ _ hst =>
      obtain ⟨k, hk, hstop, hwait⟩ := ih (hst.symm.trans h)
      refine ⟨k, Nat.lt_succ_of_lt hk, hstop, fun j hj hjm => ?_⟩
      obtain hjm | rfl := Nat.le_succ_iff.mp hjm
      · exact hwait j hj hjm
      · exact h

/-- A transport that acknowledges every stop (T3) ends every wait: the block arms again. An acknowledgment before `m`
would have ended the wait before `m`. -/
theorem exists_armsAt_of_stopping (hs : s.st ≠ .stopping) (hT3 : dutyT3 stream s) {m : Nat}
    (h : (runOn stream s m).st = .stopping) : ∃ j, m ≤ j ∧ armsAt stream s j := by
  obtain ⟨k, hkm, hstop, hwait⟩ := exists_stopsAt_of_stopping hr hs h
  obtain ⟨j, hkj, hack⟩ := hT3 k hstop
  have harm : armsAt stream s j := armsAt_of_ack hr hack
  refine ⟨j, Nat.le_of_not_lt fun hjm => ?_, harm⟩
  have hst : (runOn stream s (j + 1)).st = .stopping := hwait (j + 1) (Nat.lt_succ_of_lt hkj) hjm
  exact armResult_ne _ (by decide) (by decide) ((runOn_st_of_armsAt hr harm).symm.trans hst)

/-- From any point of a stream that meets T3, the block is in `RECEIVING` or arms later. -/
theorem receiving_or_exists_armsAt (hs : s.st ≠ .stopping) (hT3 : dutyT3 stream s) (n : Nat) :
    (runOn stream s n).st = .receiving ∨ ∃ m, n ≤ m ∧ armsAt stream s m := by
  have unlent (hl : (runOn stream s n).st.lent = false) : ∃ m, n ≤ m ∧ armsAt stream s m :=
    ⟨n, Nat.le_refl n, armsAt_of_unlent hr hl⟩
  cases h : (runOn stream s n).st with
  | receiving => exact .inl rfl
  | stopping => exact .inr (exists_armsAt_of_stopping hr hs hT3 h)
  | idle | frameReady | error => exact .inr (unlent (by rw [h]; rfl))

/-- Clause (1) of R134: a block that stayed out of `RECEIVING` would arm again and again, and so succeed (T6). -/
theorem receiving_recurs (hs : s.st ≠ .stopping) (hT3 : dutyT3 stream s) (hT6 : fairnessT6 stream s) (n : Nat) :
    ∃ m, n ≤ m ∧ (runOn stream s m).st = .receiving := by
  by_contra hnever
  have away (m : Nat) (hm : n ≤ m) : (runOn stream s m).st ≠ .receiving := fun h => hnever ⟨m, hm, h⟩
  have armsAgain (k : Nat) : ∃ m, k ≤ m ∧ armsAt stream s m := by
    obtain ⟨m, hm, harm⟩ := (receiving_or_exists_armsAt hr hs hT3 (max k n)).resolve_left (away _ (Nat.le_max_right k n))
    exact ⟨m, (Nat.le_max_left k n).trans hm, harm⟩
  obtain ⟨m, hm, harm, hok⟩ := hT6 armsAgain n
  refine away (m + 1) (Nat.le_succ_of_le hm) ?_
  rw [runOn_st_of_armsAt hr harm, hok, if_pos rfl]

/-! ### Byte synchronisation and failed arms -/

/-- Clause (2): T4 gives the first burst end offset 0, so that its length alone decides. -/
theorem frameValid_iff_length (hT4 : dutyT4Success stream s) {n m offset length : Nat} (hnm : n < m)
    (harm : armsAt stream s n) (hok : (stream n).armOk = true)
    (hfirst : ∀ k, n < k → k < m → isBurstEnd (stream k).instr = false)
    (hm : (stream m).instr = .bytesReady offset length) (hs : (runOn stream s m).st = .receiving) :
    (runOn stream s (m + 1)).out.frameValid = true ↔ length = 18 := by
  obtain rfl : offset = 0 := (hT4 n harm hok m hnm).2 hfirst offset length hm
  obtain ⟨t, he, hnext⟩ := runOn_succ_exec hr s m
  have hout : (runOn stream s (m + 1)).out = t.out := by rw [hnext]; rfl
  rw [hm] at he
  rw [hout]
  obtain ⟨hvalid, ⟨-, hi⟩, -⟩ | ⟨hvalid, hburst, -⟩ := exec_control_cases he
  · exact iff_of_true hvalid (Instr.bytesReady.inj hi).2
  · exact iff_of_false (by simp [hvalid]) fun hl => hburst ⟨hs, by rw [hl]⟩

/-- Clause (3): only a failed arm leads to `ERROR`, and T4 lets no burst follow it. -/
theorem burstPlace_none_of_error (hT4 : dutyT4Failure stream s) (hs : s.st ≠ .error) {n : Nat}
    (h : (runOn stream s n).st = .error) : burstPlace (stream n).instr = none := by
  cases n with
  | zero => exact absurd h hs
  | succ n =>
    cases runOn_requestCase hr (s := s) n with
    | arms harm _ hst =>
      refine hT4 n harm (Bool.eq_false_of_not_eq_true fun hok => ?_)
      rw [hok, h] at hst
      contradiction
    | stops _ _ _ _ hst => rw [h] at hst; contradiction
    | nothing _ _ _ hlent hst => rw [← hst, h] at hlent; contradiction

/-! ### No stall in `RECEIVING` -/

/-- Without a request the block stays in `RECEIVING`. -/
theorem receiving_of_no_request {n m : Nat} (hnm : n ≤ m) (hs : (runOn stream s n).st = .receiving)
    (hquiet : ∀ k, n ≤ k → ¬(armsAt stream s k ∨ stopsAt stream s k)) : (runOn stream s m).st = .receiving := by
  induction m, hnm using Nat.le_induction with
  | base => exact hs
  | succ m hm ih =>
    cases runOn_requestCase hr (s := s) m with
    | arms harm => exact absurd (.inl harm) (hquiet m hm)
    | stops _ hstop => exact absurd (.inr hstop) (hquiet m hm)
    | nothing _ _ _ _ hst => exact hst.trans ih

/-- Where a reception ends, an arm or a stop follows: a terminal event is answered if it is taken in `RECEIVING`, and the
block leaves `RECEIVING` only by a request (R114). -/
theorem exists_request_of_receptionEndsAfter {n : Nat} (hs : (runOn stream s n).st = .receiving)
    (h : receptionEndsAfter stream s n) : ∃ m, n ≤ m ∧ (armsAt stream s m ∨ stopsAt stream s m) := by
  by_contra hnone
  have quiet (k : Nat) (hk : n ≤ k) : ¬(armsAt stream s k ∨ stopsAt stream s k) := fun hreq => hnone ⟨k, hk, hreq⟩
  obtain ⟨m, hnm, hterm | harm⟩ := h
  · obtain ⟨t, he, hnext⟩ := runOn_succ_exec hr s m
    have hreq := exec_requests_of_terminal he (receiving_of_no_request hr hnm.le hs quiet) hterm
    refine quiet m hnm.le ?_
    rw [armsAt, stopsAt, hnext]
    exact hreq
  · exact quiet m hnm.le (.inl harm)

/-- Clause (4): T5 and T7 end every reception that asked for a buffer or delivered a byte. -/
theorem exists_request_of_demand (hT5 : dutyT5 stream s) (hT7 : dutyT7 stream s) {n : Nat}
    (hs : (runOn stream s n).st = .receiving)
    (hi : (stream n).instr = .bufferNeeded ∨ ∃ idx data, (stream n).instr = .byteWrite idx data) :
    ∃ m, n ≤ m ∧ (armsAt stream s m ∨ stopsAt stream s m) := by
  obtain hneeded | hwrite := hi
  · by_cases harm : armsAt stream s n
    · exact ⟨n, Nat.le_refl n, .inl harm⟩
    · exact exists_request_of_receptionEndsAfter hr hs (hT5 n hs (.inl ⟨hneeded, harm⟩))
  · exact exists_request_of_receptionEndsAfter hr hs (hT7 n hs hwrite)

end

/-- Settles O46, clause by clause. -/
theorem receivingRecursUnderTheDuties : Obligations.ReceivingRecursUnderTheDuties := fun _ _ hr =>
  ⟨fun hs hT3 hT6 => receiving_recurs hr hs hT3 hT6,
    fun hT4 _ _ _ _ hnm harm hok hfirst hm hs => frameValid_iff_length hr hT4 hnm harm hok hfirst hm hs,
    fun hT4 hs _ h => burstPlace_none_of_error hr hT4 hs h,
    fun hT5 hT7 _ hs hi => exists_request_of_demand hr hT5 hT7 hs hi⟩

end Sys2Proof.Machine
end

section
/-! PROOFS. The fields as numbers: the zero-centring is an exact subtraction (R166, R183), and every field is a slice of the
little-endian number of its bytes, which its table row and its shift-and-mask rule both compute (R162 to R165, R172 to R178,
R185). -/

namespace Sys2Proof.Machine

/-! ### Zero-centring as an exact subtraction -/

/-- The difference fits the s11 register, so storing it loses nothing (R166). -/
theorem center11_toInt (raw : BitVec 11) : (center11 raw).toInt = (raw.toNat : Int) - 1024 := by
  have hlt : raw.toNat < 2048 := raw.isLt
  exact BitVec.toInt_ofInt_eq_self (by decide) (by omega) (by omega)

/-- The value of an s11 register of a zero-centred field, and its range (R182). -/
theorem center11_exact (raw : BitVec 11) :
    (center11 raw).toInt = (raw.toNat : Int) - 1024 ∧ -1024 ≤ (center11 raw).toInt ∧ (center11 raw).toInt ≤ 1023 := by
  have hlt : raw.toNat < 2048 := raw.isLt
  rw [center11_toInt]
  omega

/-- Subtracting 1024 modulo 2^11 is adding 2^10, which flips bit 10 and carries into no bit that is kept (R166). -/
theorem center11_eq_xor (raw : BitVec 11) : center11 raw = raw ^^^ 0x400#11 := by
  have hadd : center11 raw = BitVec.ofNat 11 (2 ^ 10 + raw.toNat) := by
    rw [center11_eq_sub]
    bv_omega
  have hbit : 0x400#11 = BitVec.twoPow 11 10 := rfl
  refine BitVec.eq_of_getLsbD_eq fun i hi => ?_
  rw [hadd, hbit, BitVec.getLsbD_ofNat, decide_eq_true hi, Bool.true_and, BitVec.getLsbD_xor, BitVec.getLsbD_twoPow,
    ← BitVec.testBit_toNat]
  obtain hlow | rfl : i < 10 ∨ i = 10 := by omega
  · simp [Nat.testBit_two_pow_add_gt hlow, hlow.ne']
  · rw [Nat.testBit_two_pow_add_eq]
    simp

/-- Settles O48: channels and wheel share the zero-centring by their definitions. -/
theorem zeroCenteringIsExact : Obligations.ZeroCenteringIsExact := by
  refine ⟨fun raw => ?_, fun _ _ => ⟨rfl, rfl⟩⟩
  obtain ⟨hvalue, hlow, hhigh⟩ := center11_exact raw
  exact ⟨hvalue, hlow, hhigh, center11_eq_xor raw⟩

/-- Settles O54: subtracting what was added gives the value back; the wheel's raw field is the eleven bits of its two
bytes. -/
theorem channelAndWheelRoundTrip : Obligations.ChannelAndWheelRoundTrip := by
  intro f v _ _
  refine ⟨fun n _ hraw => ?_, fun hraw => ?_⟩
  · rw [channel, center11_toInt, rawCh, hraw, Int.add_sub_cancel]
  · rw [wheelOf, center11_toInt, rawWheel_eq, hraw, Int.add_sub_cancel]

/-! ### The bytes as a little-endian number -/

/-- The first byte stands below the others, in disjoint bits (R63). -/
theorem littleEndian_succ (f : Memory) (o n : Nat) :
    littleEndian f o (n + 1) = (f.read o).toNat ||| littleEndian f (o + 1) n <<< 8 := by
  rw [Nat.or_comm, ← Nat.shiftLeft_add_eq_or_of_lt (f.read o).isLt, Nat.shiftLeft_eq, littleEndian]
  omega

@[simp] theorem littleEndian_one (f : Memory) (o : Nat) : littleEndian f o 1 = (f.read o).toNat := rfl

/-- A number of `n` bytes has `8n` bits. -/
theorem littleEndian_lt (f : Memory) (o n : Nat) : littleEndian f o n < 2 ^ (8 * n) := by
  induction n generalizing o with
  | zero => exact Nat.one_pos
  | succ n ih =>
    have hbyte : (f.read o).toNat < 256 := (f.read o).isLt
    have hrest := ih (o + 1)
    rw [littleEndian, Nat.mul_succ, Nat.pow_add]
    omega

/-- A number of bytes is the number of the lower ones below the number of the others. -/
theorem littleEndian_add (f : Memory) (o k n : Nat) :
    littleEndian f o (k + n) = littleEndian f o k ||| littleEndian f (o + k) n <<< (8 * k) := by
  induction k generalizing o with
  | zero => simp [littleEndian]
  | succ k ih =>
    rw [Nat.add_right_comm, littleEndian_succ, ih, littleEndian_succ f o k, Nat.shiftLeft_or_distrib, ← Nat.shiftLeft_add,
      Nat.or_assoc, Nat.add_right_comm, Nat.add_assoc, Nat.mul_succ]

/-- Bits that lie in `n` of some bytes are found in the number of those bytes alone. -/
theorem littleEndian_slice (f : Memory) (o k n r : Nat) {sh w : Nat} (hfit : sh + w ≤ 8 * n) :
    littleEndian f o (k + (n + r)) >>> (8 * k + sh) % 2 ^ w = littleEndian f (o + k) n >>> sh % 2 ^ w := by
  have hbelow : littleEndian f o k >>> (8 * k) = 0 := Nat.shiftRight_eq_zero _ _ (littleEndian_lt f o k)
  have habove : littleEndian f (o + k + n) r <<< (8 * n - sh) % 2 ^ w = 0 := by
    rw [Nat.shiftLeft_eq]
    exact Nat.mod_eq_zero_of_dvd (Dvd.dvd.mul_left (Nat.pow_dvd_pow 2 (by omega)) _)
  rw [littleEndian_add, Nat.shiftRight_add, Nat.shiftRight_or_distrib, hbelow, Nat.zero_or, Nat.shiftLeft_shiftRight,
    littleEndian_add, Nat.shiftRight_or_distrib, ← Nat.shiftLeft_sub _ (by omega), Nat.or_mod_two_pow, habove, Nat.or_zero]

/-- A pair of bytes as a number (R63). -/
theorem pair_toNat (f : Memory) (o : Nat) : (f.pair o).toNat = littleEndian f o 2 := by
  rw [Memory.pair, BitVec.toNat_append, Nat.or_comm, littleEndian_succ, littleEndian_one]

/-- The channel window is the number of bytes 0 to 5 (R64). -/
theorem window_toNat (f : Memory) : f.window.toNat = littleEndian f 0 6 := by
  rw [littleEndian_add f 0 2 4, littleEndian_add f 2 2 2, Memory.window]
  simp only [BitVec.toNat_append, pair_toNat]
  rw [Nat.or_comm, Nat.or_comm (littleEndian f 4 2 <<< 16)]

/-! ### The rows of the field table -/

/-- A row whose mask is `w` ones takes a slice of `w` bits (R185). -/
theorem fieldByRow_eq (f : Memory) (o n sh w c : Nat) :
    fieldByRow f ⟨o, n, sh, 2 ^ w - 1, c⟩ = ((littleEndian f o n >>> sh % 2 ^ w : Nat) : Int) - c := by
  rw [fieldByRow, Nat.and_two_pow_sub_one_eq_mod]

/-- A channel by any row whose bytes hold its window bits (R162 to R165): `W[11n+10:11n]` starts at bit `sh` of byte `o`. -/
theorem fieldByRow_channel (f : Memory) (n : Nat) {o k r sh : Nat} (hbytes : 6 = o + (k + r)) (hstart : 11 * n = 8 * o + sh)
    (hfit : sh + 11 ≤ 8 * k) : fieldByRow f ⟨o, k, sh, 0x7FF, 1024⟩ = (channel f n).toInt := by
  rw [channel, center11_toInt, rawCh, BitVec.extractLsb'_toNat, window_toNat, hbytes, hstart, littleEndian_slice f 0 o k r hfit,
    Nat.zero_add]
  exact fieldByRow_eq f o k sh 11 1024

/-- The wheel by its row (R178). -/
theorem fieldByRow_wheel (f : Memory) : fieldByRow f ⟨16, 2, 0, 0x7FF, 1024⟩ = (wheelOf f).toInt := by
  rw [wheelOf, center11_toInt, rawWheel, BitVec.extractLsb'_toNat, pair_toNat]
  exact fieldByRow_eq f 16 2 0 11 1024

/-- A two-bit slice of a byte by its row (R167, R168). -/
theorem fieldByRow_switch (f : Memory) (o sh : Nat) :
    fieldByRow f ⟨o, 1, sh, 0x3, 0⟩ = ((f.read o).extractLsb' sh 2).toNat := by
  rw [BitVec.extractLsb'_toNat, ← littleEndian_one]
  exact (fieldByRow_eq f o 1 sh 2 0).trans (Int.sub_zero _)

/-- A whole pair by its row (R172 to R174, R177). -/
theorem fieldByRow_pair (f : Memory) (o : Nat) : fieldByRow f ⟨o, 2, 0, 0xFFFF, 0⟩ = (f.pair o).toNat := by
  rw [pair_toNat, ← Nat.mod_eq_of_lt (littleEndian_lt f o 2)]
  exact (fieldByRow_eq f o 2 0 16 0).trans (Int.sub_zero _)

/-- A velocity by its row, sign-extended (R172 to R174). -/
theorem ofInt_fieldByRow_velocity (f : Memory) (o : Nat) :
    BitVec.ofInt 16 (fieldByRow f ⟨o, 2, 0, 0xFFFF, 0⟩) = velocity f o := by
  rw [fieldByRow_pair, BitVec.ofInt_natCast, BitVec.ofNat_toNat, BitVec.setWidth_eq, velocity]

/-- A button by its row (R175, R176). -/
theorem fieldByRow_button (f : Memory) (i : Nat) : fieldByRow f ⟨i, 1, 0, 0x1, 0⟩ = if button f i then 1 else 0 := by
  have hrow : fieldByRow f ⟨i, 1, 0, 0x1, 0⟩ = ((f.read i).toNat % 2 : Nat) :=
    (fieldByRow_eq f i 1 0 1 0).trans (Int.sub_zero _)
  rw [hrow, button, ← BitVec.testBit_toNat, Nat.testBit_zero]
  obtain h | h := Nat.mod_two_eq_zero_or_one (f.read i).toNat <;> simp [h]

/-- Settles O49: each row is the row lemma of its kind of field; the identities of the starts are those the channel rows
use. -/
theorem everyFieldByItsTableRow : Obligations.EveryFieldByItsTableRow :=
  ⟨fun f =>
    ⟨fieldByRow_channel f 0 (r := 4) rfl rfl (by decide), fieldByRow_channel f 1 (r := 3) rfl rfl (by decide),
      fieldByRow_channel f 2 (r := 1) rfl rfl (by decide), fieldByRow_channel f 3 (r := 0) rfl rfl (by decide),
      fieldByRow_switch f 5 6, fieldByRow_switch f 5 4,
      ofInt_fieldByRow_velocity f 6, ofInt_fieldByRow_velocity f 8, ofInt_fieldByRow_velocity f 10,
      fieldByRow_button f 12, fieldByRow_button f 13, fieldByRow_pair f 14, fieldByRow_wheel f⟩,
    rfl, rfl, rfl⟩

/-! ### The shift and mask of the rules -/

/-- Two bytes under a row's shift, byte by byte. -/
theorem littleEndian_two_shiftRight (f : Memory) (o : Nat) {sh : Nat} (hsh : sh ≤ 8) :
    littleEndian f o 2 >>> sh = (f.read o).toNat >>> sh ||| (f.read (o + 1)).toNat <<< (8 - sh) := by
  rw [littleEndian_succ, littleEndian_one, Nat.shiftRight_or_distrib, ← Nat.shiftLeft_sub _ hsh]

/-- Three bytes under a row's shift, byte by byte. -/
theorem littleEndian_three_shiftRight (f : Memory) (o : Nat) {sh : Nat} (hsh : sh ≤ 8) :
    littleEndian f o 3 >>> sh = (f.read o).toNat >>> sh ||| (f.read (o + 1)).toNat <<< (8 - sh)
      ||| (f.read (o + 2)).toNat <<< (16 - sh) := by
  rw [littleEndian_add f o 2 1, Nat.shiftRight_or_distrib, littleEndian_two_shiftRight f o hsh, littleEndian_one,
    ← Nat.shiftLeft_sub _ (by omega)]

/-- Settles O47: each rule is the table row of its field, with the bytes shifted one by one. -/
theorem channelsByShiftAndMask : Obligations.ChannelsByShiftAndMask := by
  intro f
  obtain ⟨hch0, hch1, hch2, hch3, -, -, -, -, -, -, -, -, hwheel⟩ := everyFieldByItsTableRow.1 f
  refine ⟨hch0.symm.trans ?_, hch1.symm.trans ?_, hch2.symm.trans ?_, hch3.symm.trans ?_, hwheel.symm.trans ?_⟩
  · rw [fieldByRow, littleEndian_two_shiftRight f 0 (by decide)]; rfl
  · rw [fieldByRow, littleEndian_two_shiftRight f 1 (by decide)]; rfl
  · rw [fieldByRow, littleEndian_three_shiftRight f 2 (by decide)]; rfl
  · rw [fieldByRow, littleEndian_two_shiftRight f 4 (by decide)]; rfl
  · rw [fieldByRow, littleEndian_two_shiftRight f 16 (by decide)]; rfl

/-! ### Velocities and keys -/

/-- A velocity is its two bytes as a two's complement number (R172 to R174). -/
theorem velocity_toInt (f : Memory) (o : Nat) :
    (velocity f o).toInt = (littleEndian f o 2 : Int) - if littleEndian f o 2 < 32768 then 0 else 65536 := by
  rw [velocity, BitVec.toInt_eq_toNat_cond, pair_toNat]
  split <;> split <;> omega

/-- Settles O50: the sign of a velocity is that of its high byte; a pair is its low byte below its high byte. -/
theorem velocitiesAndKeysAreLittleEndian : Obligations.VelocitiesAndKeysAreLittleEndian := by
  refine ⟨fun f o => ?_, fun f k _ => ?_⟩
  · have hlow : (f.read o).toNat < 256 := (f.read o).isLt
    have hsign : littleEndian f o 2 < 32768 ↔ (f.read (o + 1)).toNat < 128 := by
      rw [littleEndian, littleEndian_one]
      omega
    rw [velocity_toInt, if_congr hsign rfl rfl, littleEndian, littleEndian_one, Nat.cast_add, Nat.cast_mul]
    rfl
  · rw [keysOf, Memory.pair, BitVec.getLsbD_append]

end Sys2Proof.Machine
end

section
/-! PROOFS. The debounce filter: its three cases (R169), its runs over consecutive frames (R171, R184), and the two switches
that each use one (R170). -/

namespace Sys2Proof.Machine

/-! ### One step of the filter -/

/-- A candidate that agrees resets the counter (R169). -/
@[simp] theorem debounce_self (n : Nat) (acc : BitVec 2) (cnt : BitVec 4) : debounce n acc cnt acc = (acc, 0) := if_pos rfl

/-- A candidate that differs and reaches the threshold is accepted (R169). -/
theorem debounce_accept {n : Nat} {acc cand : BitVec 2} {cnt : BitVec 4} (hne : cand ≠ acc) (hn : n ≤ cnt.toNat + 1) :
    debounce n acc cnt cand = (cand, 0) :=
  (if_neg hne).trans (if_pos hn)

/-- A candidate that differs below the threshold is counted (R169). -/
theorem debounce_count {n : Nat} {acc cand : BitVec 2} {cnt : BitVec 4} (hne : cand ≠ acc) (hn : cnt.toNat + 1 < n) :
    debounce n acc cnt cand = (acc, BitVec.ofNat 4 (cnt.toNat + 1)) :=
  (if_neg hne).trans (if_neg (Nat.not_le_of_lt hn))

/-- The counter has room for every count below a threshold of at most 16 (R30). -/
theorem counter_toNat {n k : Nat} (hn : n ≤ 16) (hk : k < n) : (BitVec.ofNat 4 k).toNat = k :=
  Nat.mod_eq_of_lt (Nat.lt_of_lt_of_le hk hn)

/-- Settles O56, case by case. -/
theorem debounceStepByStep : Obligations.DebounceStepByStep := by
  intro n acc cand cnt _ hn
  refine ⟨?_, debounce_accept, fun hne hlt => ?_⟩
  · rintro rfl
    exact debounce_self n cand cnt
  · rw [debounce_count hne hlt]
    exact ⟨rfl, counter_toNat hn hlt⟩

/-- The accepted value is the old one or the candidate (R169). -/
theorem debounce_fst_cases (n : Nat) (acc : BitVec 2) (cnt : BitVec 4) (cand : BitVec 2) :
    (debounce n acc cnt cand).1 = acc ∨ (debounce n acc cnt cand).1 = cand := by
  unfold debounce
  split
  · exact .inl rfl
  · split
    · exact .inr rfl
    · exact .inl rfl

/-! ### Runs of the filter -/

theorem debounceRun_cons (n : Nat) (acc : BitVec 2) (cnt : BitVec 4) (c : BitVec 2) (cands : List (BitVec 2)) :
    debounceRun n (acc, cnt) (c :: cands) = debounceRun n (debounce n acc cnt c) cands := rfl

theorem debounceRun_append_singleton (n : Nat) (p : BitVec 2 × BitVec 4) (cands : List (BitVec 2)) (c : BitVec 2) :
    debounceRun n p (cands ++ [c]) = debounce n (debounceRun n p cands).1 (debounceRun n p cands).2 c :=
  List.foldl_append

/-- Agreeing candidates keep the accepted value (R169). -/
theorem debounceRun_replicate_self (n m : Nat) (c : BitVec 2) (cnt : BitVec 4) :
    (debounceRun n (c, cnt) (List.replicate m c)).1 = c := by
  induction m generalizing cnt with
  | zero => rfl
  | succ m ih =>
    rw [List.replicate_succ, debounceRun_cons, debounce_self]
    exact ih 0

/-- Equal candidates that reach the threshold from any counter are accepted, whatever was accepted before (R169). -/
theorem debounceRun_replicate {n m : Nat} (hn : n ≤ 16) (c acc : BitVec 2) (cnt : BitVec 4) (hm : 0 < m)
    (hreach : n ≤ cnt.toNat + m) : (debounceRun n (acc, cnt) (List.replicate m c)).1 = c := by
  induction m generalizing acc cnt with
  | zero => contradiction
  | succ m ih =>
    rw [List.replicate_succ, debounceRun_cons]
    by_cases hc : c = acc
    · rw [← hc, debounce_self]
      exact debounceRun_replicate_self n m c 0
    · by_cases hge : n ≤ cnt.toNat + 1
      · rw [debounce_accept hc hge]
        exact debounceRun_replicate_self n m c 0
      · rw [debounce_count hc (by omega)]
        have hcnt := counter_toNat hn (Nat.lt_of_not_le hge)
        exact ih acc _ (by omega) (by omega)

/-- Differing candidates that end below the threshold are counted and nothing else (R184). -/
theorem debounceRun_differing {n : Nat} (hn : n ≤ 16) {v0 : BitVec 2} {cands : List (BitVec 2)} (hne : ∀ c ∈ cands, c ≠ v0)
    (cnt : BitVec 4) (hlen : cnt.toNat + cands.length < n) :
    (debounceRun n (v0, cnt) cands).1 = v0 ∧ (debounceRun n (v0, cnt) cands).2.toNat = cnt.toNat + cands.length := by
  induction cands generalizing cnt with
  | nil => exact ⟨rfl, rfl⟩
  | cons c cands ih =>
    obtain ⟨hc, hne⟩ := List.forall_mem_cons.mp hne
    rw [List.length_cons] at hlen ⊢
    have hcnt : (BitVec.ofNat 4 (cnt.toNat + 1)).toNat = cnt.toNat + 1 := counter_toNat hn (by omega)
    obtain ⟨hacc, hcount⟩ := ih hne (BitVec.ofNat 4 (cnt.toNat + 1)) (by omega)
    rw [debounceRun_cons, debounce_count hc (by omega)]
    exact ⟨hacc, by omega⟩

/-- A value that reappears in every `n` consecutive frames, and at the start among the `k + 1` that would reach the
threshold, is never given up (R184): where it reappears it resets the counter, and `k` shrinks with every other candidate. -/
theorem debounceRun_reappearing {n k : Nat} (hn : n ≤ 16) {v0 : BitVec 2} {cands : List (BitVec 2)} (cnt : BitVec 4)
    (hk : cnt.toNat + (k + 1) = n) (hstart : k + 1 ≤ cands.length → v0 ∈ cands.take (k + 1))
    (hall : ∀ i, i + n ≤ cands.length → v0 ∈ (cands.drop i).take n) : (debounceRun n (v0, cnt) cands).1 = v0 := by
  induction cands generalizing cnt k with
  | nil => rfl
  | cons c cands ih =>
    rw [List.length_cons] at hstart hall
    have htail : ∀ i, i + n ≤ cands.length → v0 ∈ (cands.drop i).take n := fun i hi => hall (i + 1) (by omega)
    rw [debounceRun_cons]
    by_cases hc : c = v0
    · obtain ⟨j, rfl⟩ : ∃ j, n = j + 1 := ⟨n - 1, by omega⟩
      rw [hc, debounce_self]
      exact ih 0 (Nat.zero_add _) (fun h => htail 0 (by omega)) htail
    · have hnext : k ≤ cands.length → v0 ∈ cands.take k := fun h =>
        (List.mem_cons.mp (hstart (Nat.succ_le_succ h))).resolve_left (Ne.symm hc)
      cases k with
      | zero => exact absurd (hnext (Nat.zero_le _)) List.not_mem_nil
      | succ k =>
        have hcnt : (BitVec.ofNat 4 (cnt.toNat + 1)).toNat = cnt.toNat + 1 := counter_toNat hn (by omega)
        rw [debounce_count hc (by omega)]
        exact ih _ (by omega) hnext htail

/-- Settles O57: `n - 1` differing frames bring the counter to `n - 1`, where one more is accepted. -/
theorem debounceLaws : Obligations.DebounceLaws := by
  intro n v0 hpos hn
  refine ⟨fun cands last hlen hne hlast => ?_, debounce_self n, fun cands hall => ?_⟩
  · have hzero : (0 : BitVec 4).toNat = 0 := rfl
    obtain ⟨hacc, hcount⟩ := debounceRun_differing hn hne 0 (by omega)
    rw [debounceRun_append_singleton, hacc, debounce_accept hlast (by omega)]
    exact ⟨rfl, rfl⟩
  · obtain ⟨k, rfl⟩ : ∃ k, n = k + 1 := ⟨n - 1, by omega⟩
    exact debounceRun_reappearing hn 0 (Nat.zero_add _) (fun h => hall 0 (by omega)) hall

/-! ### The two switches -/

/-- Settles O58: the filter of a switch is applied to its own value, counter and candidate. -/
theorem switchFiltersAreIndependent : Obligations.SwitchFiltersAreIndependent := by
  intro s t hcfg
  refine ⟨fun hacc hcnt hcand => ?_, fun hacc hcnt hcand => ?_⟩
  · have hfilter : s.debounceS1 = t.debounceS1 := by
      rw [State.debounceS1, State.debounceS1, s1Raw, s1Raw, hcfg, hacc, hcnt, hcand]
    exact ⟨congrArg Prod.fst hfilter, congrArg Prod.snd hfilter⟩
  · have hfilter : s.debounceS2 = t.debounceS2 := by
      rw [State.debounceS2, State.debounceS2, s2Raw, s2Raw, hcfg, hacc, hcnt, hcand]
    exact ⟨congrArg Prod.fst hfilter, congrArg Prod.snd hfilter⟩

/-- Decoding one frame again and again runs each filter over its candidate again and again (R170, R171). -/
theorem iterate_decodeFrame_switches (s : State) (m : Nat) :
    ((State.decodeFrame^[m] s).cs.s1, (State.decodeFrame^[m] s).cntS1)
        = debounceRun s.cfg.debounceN (s.cs.s1, s.cntS1) (List.replicate m (s1Raw s.fb))
      ∧ ((State.decodeFrame^[m] s).cs.s2, (State.decodeFrame^[m] s).cntS2)
        = debounceRun s.cfg.debounceN (s.cs.s2, s.cntS2) (List.replicate m (s2Raw s.fb)) := by
  induction m generalizing s with
  | zero => exact ⟨rfl, rfl⟩
  | succ m ih => exact ih s.decodeFrame

/-- A frame decoded `DEBOUNCE_N` times or more has its switches accepted, from any state. -/
theorem iterate_decodeFrame_accepts (s : State) (k : Nat) :
    (State.decodeFrame^[s.cfg.debounceN + k] s).cs.s1 = s1Raw s.fb
      ∧ (State.decodeFrame^[s.cfg.debounceN + k] s).cs.s2 = s2Raw s.fb := by
  have hpos := debounceN_pos s.cfg
  obtain ⟨hs1, hs2⟩ := iterate_decodeFrame_switches s (s.cfg.debounceN + k)
  exact ⟨(congrArg Prod.fst hs1).trans (debounceRun_replicate (debounceN_le s.cfg) _ _ _ (by omega) (by omega)),
    (congrArg Prod.fst hs2).trans (debounceRun_replicate (debounceN_le s.cfg) _ _ _ (by omega) (by omega))⟩

end Sys2Proof.Machine
end

section
/-! PROOFS. What a decode leaves in the registers: every field in its range, and a frame for every value (R182). -/

namespace Sys2Proof.Machine

/-! ### A frame for every value -/

/-- Any bytes, up to 18, are the contents of a canonical buffer. -/
theorem exists_buffer (b : Nat → Byte) {n : Nat} (hn : n ≤ 18) :
    ∃ f : Memory, f.wf = true ∧ ∀ i, i < n → f.read i = b i := by
  induction n with
  | zero => exact ⟨[], rfl, fun _ h => by contradiction⟩
  | succ n ih =>
    obtain ⟨f, hwf, hread⟩ := ih (by omega)
    refine ⟨f.write n (b n), Memory.wfFrom_write (b n) hwf (Nat.zero_le n) hn, fun i hi => ?_⟩
    obtain rfl | hne := eq_or_ne i n
    · exact Memory.read_write_same (b i) hwf
    · exact (Memory.read_write_ne f (b n) hne).trans (hread i (by omega))

/-- Any fields are those of a frame in a canonical buffer: the packed one (R86). -/
theorem exists_extractFields_eq (x : FrameFields) : ∃ f : Memory, f.wf = true ∧ extractFields f = x := by
  obtain ⟨f, hwf, hread⟩ := exists_buffer (frameByte (packFrame x 0 0 0)) (Nat.le_refl 18)
  exact ⟨f, hwf, packedFrameExtractsToItsFields x 0 0 0 f hread⟩

/-! ### The ranges -/

/-- An s16 register of a velocity: its value and its range (R182). -/
theorem velocity_exact (f : Memory) (o : Nat) :
    (velocity f o).toInt = (littleEndian f o 2 : Int) - (if littleEndian f o 2 < 32768 then 0 else 65536)
      ∧ -32768 ≤ (velocity f o).toInt ∧ (velocity f o).toInt ≤ 32767 :=
  ⟨velocity_toInt f o, BitVec.le_toInt _, Int.le_of_lt_add_one BitVec.toInt_lt⟩

/-- A switch register holds a two-bit value (R182). -/
theorem switch_toNat_le (v : BitVec 2) : v.toNat ≤ 3 := Nat.le_of_lt_succ v.isLt

/-- Settles O55: a decode writes each register the field lemmas speak of, and the packed frame of any fields shows them. -/
theorem fieldRangesAreExact : Obligations.FieldRangesAreExact := by
  refine ⟨fun s => ⟨?_, ?_, debounce_fst_cases .., switch_toNat_le _, debounce_fst_cases .., switch_toNat_le _⟩, fun x => ?_⟩
  · simp only [List.forall_mem_cons, decodeFrame_cs, controlOf_ch0, controlOf_ch1, controlOf_ch2, controlOf_ch3,
      controlOf_wheel]
    exact ⟨center11_exact _, center11_exact _, center11_exact _, center11_exact _, center11_exact _, List.forall_mem_nil _⟩
  · simp only [List.forall_mem_cons]
    exact ⟨velocity_exact s.fb 6, velocity_exact s.fb 8, velocity_exact s.fb 10, List.forall_mem_nil _⟩
  · obtain ⟨f, hwf, rfl⟩ := exists_extractFields_eq x
    exact ⟨f, hwf, fun s => ⟨⟨rfl, rfl, rfl, rfl, rfl, rfl, rfl, rfl, rfl, rfl, rfl⟩,
      fun k => iterate_decodeFrame_accepts { s with fb := f } k⟩⟩

end Sys2Proof.Machine
end

section
/-! PROOFS. The error strobes: where a transaction raises each of them (R201, R202, R205), and what the entry to `ERROR` that
comes with `err[1]` leaves unchanged (R206). -/

namespace Sys2Proof.Machine

/-! ### `TruncatedFrame` -/

/-- What an `ARM()` adds to the error strobes is never `err[0]` (R112). -/
@[simp] theorem armFailure_bit_zero (ok : Bool) : (if ok then 0#2 else 2#2)[0] = false := by
  cases ok <;> rfl

@[simp] theorem rearm_err_zero (s : State) : s.rearm.out.err[0] = s.out.err[0] := by
  cases hp : s.cfg.policy with
  | doubleBuffer => simp [rearm_doubleBuffer hp]
  | singleShot => simp [rearm_singleShot hp]

@[simp] theorem resupply_err_zero (s : State) : s.resupply.out.err[0] = s.out.err[0] := by
  cases hp : s.cfg.policy with
  | doubleBuffer => simp [resupply_doubleBuffer hp]
  | singleShot => simp [resupply_singleShot hp]

/-- Where a transaction raises `TruncatedFrame`: at an unsolicited stop and at an invalid burst end in `RECEIVING` (R119,
R123, R124, R201). -/
theorem exec_truncatedFrame_iff {i : Instr} {s t : State} (h : exec i s = .next t) :
    truncatedFrame t = true ↔
      s.st = .receiving
        ∧ (isAck i = true ∨ ∃ offset length, i = .bytesReady offset length ∧ ¬(offset = 0 ∧ length = 18)) := by
  cases exec_cases h with
  | unlent hs => simp [ne_receiving_of_unlent hs]
  | quiet _ hi => obtain rfl | rfl | rfl := hi <;> simp [isAck]
  | byteWrite _ _ _ hi => simp [hi, isAck]
  | validBurst _ hi => simp [hi, isAck]
  | invalidBurst hs offset length hi hv =>
    exact iff_of_true (by simp) ⟨hs, .inr ⟨offset, length, hi, hv⟩⟩
  | resupply _ hi => simp [hi, isAck]
  | unsolicitedStop hs hi => exact iff_of_true (by simp) ⟨hs, .inl hi⟩
  | acknowledgment hs | ignoredWhileStopping hs => simp [hs]

/-! ### `TransportRearmFailure` -/

/-- An `ARM()` raises `err[1]` exactly when it fails (R112, R202). -/
theorem arm_err_one_iff {s : State} (h : s.out.err[1] = false) :
    s.arm.out.err[1] = true ↔ s.arm.out.armReq = true ∧ s.armOk = false := by
  rw [arm_err, arm_armReq, BitVec.getElem_or, h]
  cases s.armOk <;> simp

theorem rearm_err_one_iff {s : State} (h : s.out.err[1] = false) (harm : s.out.armReq = false) :
    s.rearm.out.err[1] = true ↔ s.rearm.out.armReq = true ∧ s.armOk = false := by
  cases hp : s.cfg.policy with
  | doubleBuffer => rw [rearm_doubleBuffer hp]; exact arm_err_one_iff h
  | singleShot => simp [rearm_singleShot hp, h, harm]

theorem resupply_err_one_iff {s : State} (h : s.out.err[1] = false) (harm : s.out.armReq = false) :
    s.resupply.out.err[1] = true ↔ s.resupply.out.armReq = true ∧ s.armOk = false := by
  cases hp : s.cfg.policy with
  | doubleBuffer => rw [resupply_doubleBuffer hp]; exact arm_err_one_iff h
  | singleShot => simp [resupply_singleShot hp, h, harm]

/-- Where a transaction raises `TransportRearmFailure`: where it arms and the arm fails (R202). -/
theorem exec_rearmFailure_iff {i : Instr} {s t : State} (h : exec i s = .next t) :
    rearmFailure t = true ↔ t.out.armReq = true ∧ s.armOk = false := by
  rw [rearmFailure, BitVec.getLsbD_eq_getElem]
  cases exec_cases h with
  | unlent | acknowledgment => exact arm_err_one_iff (s := s.beginStep) (by simp)
  | unsolicitedStop => exact arm_err_one_iff (s := s.beginStep.raiseTruncatedFrame) (by simp)
  | validBurst => exact rearm_err_one_iff (s := s.beginStep.strobeFrameValid.decodeFrame) (by simp) (by simp)
  | invalidBurst => exact rearm_err_one_iff (s := s.beginStep.raiseTruncatedFrame) (by simp) (by simp)
  | resupply => exact resupply_err_one_iff (s := s.beginStep) (by simp) (by simp)
  | quiet | byteWrite | ignoredWhileStopping => simp

/-- No step both accepts a frame and raises `TruncatedFrame` (R205): the one takes a valid burst end, the other an invalid
one or a stop. -/
theorem exec_not_frameValid_and_truncatedFrame {i : Instr} {s t : State} (h : exec i s = .next t) :
    ¬(t.out.frameValid = true ∧ truncatedFrame t = true) := by
  rintro ⟨hvalid, htrunc⟩
  obtain ⟨-, ⟨-, rfl⟩, -⟩ | ⟨hinvalid, -⟩ := exec_control_cases h
  · obtain ⟨-, hack | ⟨offset, length, hburst, hv⟩⟩ := (exec_truncatedFrame_iff h).mp htrunc
    · contradiction
    · obtain ⟨rfl, rfl⟩ := Instr.bytesReady.inj hburst
      exact hv ⟨rfl, rfl⟩
  · exact absurd (hvalid.symm.trans hinvalid) (by decide)

/-- Settles O29. -/
theorem errorStrobesExactly : Obligations.ErrorStrobesExactly :=
  fun _ _ _ h => ⟨exec_truncatedFrame_iff h, exec_rearmFailure_iff h, exec_not_frameValid_and_truncatedFrame h⟩

/-! ### The entry to `ERROR` -/

/-- A transaction that ends in `ERROR` armed and failed: no other request leads there, and a step that requests nothing
starts lent (R131, R202). -/
theorem RequestCase.arm_failed_of_error {st : AsmState} {policy : RearmPolicy} {ok : Bool} {out : StepOut}
    (h : RequestCase st policy ok .error out) : out.armReq = true ∧ ok = false := by
  cases h with
  | arms harm _ hst =>
    cases ok with
    | false => exact ⟨harm, rfl⟩
    | true => contradiction
  | stops _ _ _ _ hst => contradiction
  | nothing _ _ _ hs hst => rw [← hst] at hs; contradiction

/-- A byte write into the lent buffer requests nothing, so a transaction that arms leaves the buffer as it was (R206). -/
theorem exec_fb_of_armReq {i : Instr} {s t : State} (h : exec i s = .next t) (harm : t.out.armReq = true) :
    t.fb = s.fb := by
  obtain hfb | ⟨idx, data, rfl, -, hlent, -⟩ := exec_fb_cases h
  · exact hfb
  · have hrequests := (exec_armReq_iff h).mp harm
    simp [hlent, isAck] at hrequests

/-- Settles O34: the step armed and failed, so it wrote no byte, and the registers are those of a step that accepts no
frame. -/
theorem errorEntryIsPrecise : Obligations.ErrorEntryIsPrecise := by
  intro i s t h herror
  obtain ⟨harm, hfail⟩ := (herror ▸ exec_requestCase h).arm_failed_of_error
  refine ⟨(exec_rearmFailure_iff h).mpr ⟨harm, hfail⟩, fun a => congrArg (Memory.read · a) (exec_fb_of_armReq h harm),
    exec_sameEnvironment h, fun hnone => ?_⟩
  obtain ⟨hvalid, -⟩ | ⟨-, -, hsame⟩ := exec_control_cases h
  · exact absurd (hvalid.symm.trans hnone) (by decide)
  · exact hsame

end Sys2Proof.Machine
end

section
/-! PROOFS. No stale byte (R211 T2, R236): a decode reads the 18 bytes of the buffer alone, and duty T2 has each of them
written before the burst end. -/

namespace Sys2Proof.Machine

/-- The fields of a frame depend on its 18 bytes alone (R160). -/
theorem extractFields_congr {f g : Memory} (h : ∀ i, i < 18 → f.read i = g.read i) : extractFields f = extractFields g := by
  have hbits : f.frameBits = g.frameBits := frameBits_eq_of_read fun i hi => (h i hi).trans (frameBits_byte g hi).symm
  rw [extractFields_eq_fieldsOf, extractFields_eq_fieldsOf, hbits]

/-- Frames of the same 18 bytes, decoded over the same registers and counters, give the same registers and counters. -/
theorem DecodedFrom.sameControl {s t u : State} {f g : Memory} (ht : DecodedFrom s f t) (hu : DecodedFrom s g u)
    (h : ∀ i, i < 18 → f.read i = g.read i) : SameControl u t := by
  have hfields := extractFields_congr h
  have hs1 : s1Raw f = s1Raw g := congrArg FrameFields.s1 hfields
  have hs2 : s2Raw f = s2Raw g := congrArg FrameFields.s2 hfields
  obtain ⟨htcs, htcnt1, htcnt2⟩ := decodedFrom_iff.mp ht
  obtain ⟨hucs, hucnt1, hucnt2⟩ := decodedFrom_iff.mp hu
  exact ⟨by rw [htcs, hucs, hfields, hs1, hs2], by rw [htcnt1, hucnt1, hs1], by rw [htcnt2, hucnt2, hs2]⟩

/-- Settles O42: each run accepts the bytes last written, and under duty T2 those do not depend on the bytes before. -/
theorem dutyT2LeavesNoStaleByte : Obligations.DutyT2LeavesNoStaleByte := by
  intro fills rest ready s fb' hwf hwf' hs hq hr hf hduty hready
  obtain ⟨t, hrun, hvalid, -, hread, hdec⟩ := run_filling_validBurst hwf hs hq hr hf hready
  obtain ⟨t', hrun', hvalid', -, hread', hdec'⟩ :=
    run_filling_validBurst (s := { s with fb := fb' }) hwf' hs hq hr hf hready
  have hbytes (i : Nat) (hi : i < 18) : t.fb.read i = t'.fb.read i := by
    rw [hread, hread']
    exact lastWritten_of_written (dutyT2_written hduty hi) _ _
  exact ⟨t, t', hrun, hrun', hvalid, hvalid', hbytes, DecodedFrom.sameControl hdec hdec' hbytes⟩

end Sys2Proof.Machine
end

section
/-! PROOFS. Reset and the arm-failure loop (R230, R231, R235). -/

namespace Sys2Proof.Machine

/-! ### What reset leaves -/

/-- A state that shows the outputs of an edge that takes no step requests nothing and raises no strobe (R230). -/
theorem strobes_of_out_reset {t : State} {timeout : Nat} (h : t.out = StepOut.reset timeout) :
    Strobes t false false false 0 := by
  rw [Strobes, h]
  exact ⟨rfl, rfl, rfl, rfl⟩

/-- An empty buffer reads 0x00 at every index, the reset contents of R23. -/
theorem read_of_fb_nil {t : State} (h : t.fb = []) (a : Nat) : t.fb.read a = 0 := by
  rw [h]
  exact Memory.read_nil a

/-- Settles O9. -/
theorem resetLeavesEveryRegisterAtItsValue : Obligations.ResetLeavesEveryRegisterAtItsValue :=
  ⟨rfl, rfl, read_of_fb_nil rfl, rfl, rfl, rfl, strobes_of_out_reset rfl⟩

/-- The state a reset edge leaves (R230). -/
theorem resetEdge_values (s : State) :
    Strobes s.resetEdge false false false 0 ∧ s.resetEdge.st = .idle ∧ (∀ a, s.resetEdge.fb.read a = 0)
      ∧ s.resetEdge.cs = ⟨0, 0, 0, 0, 0, 0, 0, 0, 0, false, false, 0, 0⟩
      ∧ s.resetEdge.cntS1 = 0 ∧ s.resetEdge.cntS2 = 0 :=
  ⟨strobes_of_out_reset (resetEdge_out s), resetEdge_st s, read_of_fb_nil (resetEdge_fb s), resetEdge_cs s,
    resetEdge_cntS1 s, resetEdge_cntS2 s⟩

/-- A reset edge consumes its sample and looks at nothing in it (R230). -/
theorem resetEdge_withQueue_cons (s : State) (inp inp' : Input) (rest : List Input) :
    (s.withQueue (inp :: rest)).resetEdge = (s.withQueue (inp' :: rest)).resetEdge := rfl

/-- Settles O10: every reset sample gives the state that the one beside `NOP` gives. -/
theorem resetEdgeGivesEveryResetValue : Obligations.ResetEdgeGivesEveryResetValue := by
  intro s rest
  refine ⟨(s.withQueue (⟨true, 0, false⟩ :: rest)).resetEdge, fun w ok => ?_, resetEdge_values _⟩
  rw [← resetEdge_withQueue_cons s ⟨true, w, ok⟩]
  exact step_of_rst rfl

/-! ### Arming where the buffer is not lent -/

/-- Where the buffer is not lent a step on a queued sample arms, whatever the transaction (R21, R126, R127). -/
theorem step_of_unlent {s : State} {inp : Input} {rest : List Input} (hu : s.st.lent = false)
    (hq : s.inputs = inp :: rest) (hr : inp.rst = false) :
    ∃ u, step s = .next u ∧ u.inputs = rest ∧ u.st = (if inp.armOk then .receiving else .error) ∧ SameBuffer s u
      ∧ SameControl s u ∧ Strobes u true false false (if inp.armOk then 0#2 else 2#2) := by
  obtain ⟨u, hstep, huq, hus, hubuf, hucontrol, hustrobes⟩ :=
    step_of_onlyArms hq hr (exec_of_unlent hu inp.instr) (beginStep_arm_onlyArms s)
  rw [if_neg Bool.false_ne_true, BitVec.zero_or] at hustrobes
  exact ⟨u, hstep, huq, hus, hubuf, hucontrol, hustrobes⟩

/-- Settles O11: reset leaves `IDLE`, where the buffer is not lent. -/
theorem firstStepAfterResetArms : Obligations.FirstStepAfterResetArms := by
  intro w ok
  obtain ⟨u, hstep, -, hus, -, -, harm, -, hvalid, -⟩ :=
    step_of_unlent (s := State.reset.withQueue [⟨false, w, ok⟩]) rfl rfl rfl
  exact ⟨u, hstep, harm, hvalid, hus⟩

/-- Settles O38: the failures before the last hold `ERROR`, and the last step arms from there and fails. -/
theorem failedArmsHoldError : Obligations.FailedArmsHoldError := by
  intro fails rest s hs hq hr hf
  obtain rfl | ⟨init, last, rfl⟩ := List.eq_nil_or_concat' fails
  · obtain ⟨t, hrun, hts, htq, htbuf, htcontrol⟩ := run_failing hs hq hr hf
    exact ⟨t, hrun, hts, htq, htbuf, htcontrol, fun hne => absurd rfl hne⟩
  · obtain ⟨hri, hrl⟩ := List.forall_mem_append.mp hr
    obtain ⟨hfi, hfl⟩ := List.forall_mem_append.mp hf
    obtain ⟨t, hrun, hts, htq, htbuf, htcs, htcnt1, htcnt2⟩ :=
      run_failing hs (hq.trans (List.append_assoc init [last] rest)) hri hfi
    obtain ⟨u, hstep, huq, hus, hubuf, ⟨hucs, hucnt1, hucnt2⟩, harm, -, -, herr⟩ :=
      step_of_unlent (by rw [hts]; rfl) htq (hrl last (List.mem_singleton_self last))
    rw [hfl last (List.mem_singleton_self last), if_neg Bool.false_ne_true] at hus herr
    refine ⟨u, ?_, hus, huq, fun a => (hubuf a).trans (htbuf a),
      ⟨hucs.trans htcs, hucnt1.trans htcnt1, hucnt2.trans htcnt2⟩, fun _ => ⟨harm, by rw [rearmFailure, herr]; rfl⟩⟩
    rw [List.length_append, run_add hrun, List.length_singleton, run_succ hstep]
    rfl

end Sys2Proof.Machine
end
